-- ==== Sys2Proof/Word.lean ====
section
/-! DEFINITION. The block's words: bytes, 16-bit and 32-bit values, a 16-byte frame buffer, and the three groups of
values a frame carries (spec/00_scope.md R8, R11, R37; spec/30_encoding.md R82). Every value is unsigned (R8). -/

namespace Sys2Proof

/-- A byte (R8). -/
abbrev Byte := BitVec 8

/-- An unsigned 16-bit value, `u16` (R8). -/
abbrev U16 := BitVec 16

/-- A clock value in milliseconds, `TIME_BITS` = 32 bits wide (R7, R42). -/
abbrev Time := BitVec 32

/-- The battery voltage, a 32-bit pattern the block never interprets, `bits32` (R8, R113). -/
abbrev BattBits := BitVec 32

/-- A frame buffer: exactly `FRAME_BYTES` = 16 bytes at the offsets 0 to 15 (R7, R11, R60, R80). -/
abbrev FrameBytes := Vector Byte 16

/-- A channel selector as a Control frame and the calibration holder take it: 3 bits, values 0 to 7 (R38, R93). -/
abbrev Sel3 := BitVec 3

/-- The five primary channel values, in frame order (R37, R82). -/
structure Primary where
  throttle : U16
  rudder   : U16
  elevator : U16
  aileron  : U16
  channel5 : U16
  deriving DecidableEq, Repr, Inhabited

/-- The three auxiliary channel values `aux[0]`, `aux[1]`, `aux[2]` (R37, R82). -/
structure Auxiliary where
  aux0 : Byte
  aux1 : Byte
  aux2 : Byte
  deriving DecidableEq, Repr, Inhabited

/-- The six scalar fields of one calibration channel, `val[0]` to `val[5]` in this order (R14, R82). -/
structure CalVals where
  rawMin    : U16
  rawCenter : U16
  rawMax    : U16
  outMin    : U16
  outCenter : U16
  outMax    : U16
  deriving DecidableEq, Repr, Inhabited

end Sys2Proof
end

