-- ==== Sys2Proof/Config.lean ====
section
/-! DEFINITION. The parameters of one instance (spec/00_scope.md R7), the constants of the encoding, and the free
values: what the surroundings answer when the state lines nothing up (spec/20_memory.md R70, R71). -/

namespace Sys2Proof

/-- The endpoint role, a static parameter and no privilege mode (R2, R212). -/
inductive Role where
  | tx
  | rx
  deriving DecidableEq, Repr, Inhabited

/-- The five type values `TYPE_UNKNOWN` to `TYPE_CALIBSET` of one instance: parameters (R7, R81;
spec/93_implementation_defined.md U2). -/
structure FrameTypes where
  /-- `TYPE_UNKNOWN`. -/
  unknown  : Byte
  /-- `TYPE_CONTROL`. -/
  control  : Byte
  /-- `TYPE_STATUS`. -/
  status   : Byte
  /-- `TYPE_CALIBGET`. -/
  calibGet : Byte
  /-- `TYPE_CALIBSET`. -/
  calibSet : Byte
  deriving DecidableEq, Repr, Inhabited

/-- The values of R7 and R81: 0 to 4. -/
def FrameTypes.default : FrameTypes := ⟨0#8, 1#8, 2#8, 3#8, 4#8⟩

/-- The assigned type values. -/
def FrameTypes.assigned (ty : FrameTypes) : List Byte :=
  [ty.unknown, ty.control, ty.status, ty.calibGet, ty.calibSet]

/-- The type values are pairwise distinct (U2). -/
abbrev FrameTypes.wf (ty : FrameTypes) : Prop := ty.assigned.Nodup

/-- A type byte that selects no layout: `TYPE_UNKNOWN` and the unassigned values (R95, R118). -/
abbrev FrameTypes.noLayout (ty : FrameTypes) (b : Byte) : Prop :=
  b ≠ ty.control ∧ b ≠ ty.status ∧ b ≠ ty.calibGet ∧ b ≠ ty.calibSet

/-- The parameters of one instance (R7). They are fixed before RESET and no operation changes one (R77). -/
structure Params where
  /-- `ROLE`. -/
  role             : Role
  /-- `W_MS`, the estimator's window length in milliseconds. -/
  wMs              : Nat
  /-- `T_SAMPLES`, the estimator's target sample count. -/
  tSamples         : Nat
  /-- `RATING_HALF`, the weight of each rating component (R7; U9). -/
  ratingHalf       : Nat
  /-- `FETCH_INTERVAL_MS`, the status fetch interval. -/
  fetchIntervalMs  : Nat
  /-- `LISTEN_DURATION_MS`, the bound of the listen window. -/
  listenDurationMs : Nat
  /-- `HAS_CARRIER_SENSE`, transmitter only. -/
  hasCarrierSense  : Bool
  /-- `ACT_PRI_MIN`, receiver only. -/
  actPriMin        : U16
  /-- `ACT_PRI_MAX`, receiver only. -/
  actPriMax        : U16
  /-- `ACT_AUX_MIN`, receiver only. -/
  actAuxMin        : Byte
  /-- `ACT_AUX_MAX`, receiver only. -/
  actAuxMax        : Byte
  /-- `TYPE_UNKNOWN` to `TYPE_CALIBSET`. -/
  types            : FrameTypes
  deriving DecidableEq, Repr, Inhabited

/-- What R7, R9 and spec/93_implementation_defined.md U2, U9, U11 ask of the parameters: each clamp range is not empty,
`T_SAMPLES` is not zero, the type values are pairwise distinct; and the largest rating, twice `RATING_HALF`, fits the 8
bits of `sq_rating` (R24; DEDUCED, log 18). -/
abbrev Params.wf (p : Params) : Prop :=
  0 < p.tSamples ∧ p.actPriMin.toNat ≤ p.actPriMax.toNat ∧ p.actAuxMin.toNat ≤ p.actAuxMax.toNat ∧
    p.types.wf ∧ 2 * p.ratingHalf ≤ 255

/-- The values of R7 (`W_MS`, `T_SAMPLES`, `RATING_HALF`, `FETCH_INTERVAL_MS`, `LISTEN_DURATION_MS`, `TYPE_*`) for an
instance of role `role`. DESIGN CHOICE (log 1), unsafe: for the OPEN parameters `HAS_CARRIER_SENSE` and `ACT_*` the values with which
spec/95_test_vectors.md computes its vectors; no statement rests on them. -/
def Params.default (role : Role) : Params where
  role             := role
  wMs              := 500
  tSamples         := 200
  ratingHalf       := 33
  fetchIntervalMs  := 500
  listenDurationMs := 20
  hasCarrierSense  := true
  actPriMin        := 1000#16
  actPriMax        := 2000#16
  actAuxMin        := 0#8
  actAuxMax        := 255#8
  types            := FrameTypes.default

namespace Config

/-- The largest value of a `CNT_BITS` = 16 bit counter (R7, R21). -/
def cntMax : Nat := 65535

/-- `N_CAL_CHANNELS`, the number of calibration channels (R7, R93). -/
def nCalChannels : Nat := 6

/-! Free values (log 2): the answers of the collaborators that no list of the state gives. R71 makes each of them a free
oracle. The first argument says whose collaborators answer: two endpoints share neither a clock nor any other
collaborator (R216, log 23). The second is the number of collaborator calls made before, so that two calls may answer
differently (R64); of `freeKeep`, the number of frames left with the radio before. -/

/-- What `Clock.now()` answers (R42, R71). -/
opaque freeClock : Nat → Nat → Time
/-- What `Radio.tryReceive()` answers: nothing or any 16 bytes (R41, R71). -/
opaque freeReceive : Nat → Nat → Option FrameBytes
/-- What `Radio.carrierDetected()` answers (R41, R71). -/
opaque freeCarrier : Nat → Nat → Bool
/-- What `Radio.send` answers (R41, R71). -/
opaque freeSendOk : Nat → Nat → Bool
/-- What `Batt.read()` answers (R43, R71). -/
opaque freeBatt : Nat → Nat → BattBits
/-- What `Cal.read(sel)` answers (R44, R71). -/
opaque freeCal : Nat → Nat → Sel3 → CalVals
/-- Whether the radio keeps a frame that nobody polls for, or loses it (R70: both are admitted). -/
opaque freeKeep : Nat → Nat → Bool

end Config

end Sys2Proof
end

