-- ==== Sys2Proof/Syntax.lean ====
section
/-! DEFINITION. The instruction set as syntax: one constructor of `Instr` per row of spec/opcode_table.json
(spec/00_scope.md R3: the operations the block performs and the frames it exchanges), the abstract frame of
spec/30_encoding.md R82, and what stands on the block's inputs in one step (R98). -/

namespace Sys2Proof

/-- The four request codes of a Control frame (R88). -/
inductive Req where
  | none
  | status
  | calibGet
  | calibSet
  deriving DecidableEq, Repr, Inhabited

/-- `cal_req_kind`, the CalibrationEngine's outstanding request (R38). -/
inductive CalKind where
  | noCal
  | get
  | set
  deriving DecidableEq, Repr, Inhabited

/-- The abstract frame (R82). Equality is bit for bit, the battery pattern included. -/
inductive Frame where
  | unknown
  | control  (request : Req) (sel : Sel3) (pri : Primary) (aux : Auxiliary)
  | status   (good : Bool) (rating : Byte) (batt : BattBits)
  | calibGet (sel : Byte) (val : CalVals)
  | calibSet (sel : Byte) (val : CalVals)
  deriving DecidableEq, Repr, Inhabited

/-- The instructions, one constructor per row of spec/opcode_table.json. -/
inductive Instr where
  /-- `FRAME.UNKNOWN`: a frame of the type `TYPE_UNKNOWN` (R118). -/
  | frameUnknown
  /-- `FRAME.UNASSIGNED`: a frame of an unassigned type, 5..255; its other bytes are dropped (R95, R118). -/
  | frameUnassigned (type : Byte)
  /-- `FRAME.CONTROL` (R85, R119). -/
  | frameControl (request : Req) (sel : Sel3) (pri : Primary) (aux : Auxiliary)
  /-- `FRAME.STATUS` (R89, R120). -/
  | frameStatus (good : Bool) (rating : Byte) (batt : BattBits)
  /-- `FRAME.CALIBGET` (R91, R121). -/
  | frameCalibGet (sel : Byte) (val : CalVals)
  /-- `FRAME.CALIBSET` (R91, R122). -/
  | frameCalibSet (sel : Byte) (val : CalVals)
  /-- `REQ.NONE` (R88, R186). -/
  | reqNone (sel : Sel3)
  /-- `REQ.STATUS` (R88, R185). -/
  | reqStatus (sel : Sel3)
  /-- `REQ.CALIBGET` (R88, R187). -/
  | reqCalibGet (sel : Sel3)
  /-- `REQ.CALIBSET` (R88, R187). -/
  | reqCalibSet (sel : Sel3)
  /-- `PROBE` (R131). -/
  | probe (cd : Bool)
  /-- `TICK` (R133). -/
  | tick (now : Time)
  /-- `TXCYCLE` (R150). -/
  | txcycle (pri : Primary) (aux : Auxiliary) (calKind : CalKind) (calSel : Sel3)
  /-- `RXPOLL` (R180). -/
  | rxpoll
  /-- `LISTENSTEP`, the block's own step, taken when no request is asserted (R98, R156). -/
  | listenstep
  /-- `RESET` (R230). -/
  | reset
  /-- `ENCODE`, evaluated directly by the host (R98, R110). -/
  | codecEncode (f : Frame)
  /-- `DECODE`, evaluated directly by the host (R98, R117). -/
  | codecDecode (bytes : FrameBytes)
  /-- `CYCLE`, the pseudo-operation (R103). -/
  | cycle (pri : Primary) (aux : Auxiliary) (calKind : CalKind) (calSel : Sel3)
  deriving DecidableEq, Repr, Inhabited

/-- The operand inputs beside the request lines (R37, R38, R39, R98). -/
structure OperandInputs where
  cd      : Bool
  now     : Time
  pri     : Primary
  aux     : Auxiliary
  calKind : CalKind
  calSel  : Sel3
  deriving DecidableEq, Repr, Inhabited

/-- The operand inputs with every operand zero and no calibration request. -/
def OperandInputs.zero : OperandInputs where
  cd      := false
  now     := 0#32
  pri     := ⟨0#16, 0#16, 0#16, 0#16, 0#16⟩
  aux     := ⟨0#8, 0#8, 0#8⟩
  calKind := .noCal
  calSel  := 0#3

/-- What stands on the block's inputs for one step: the request lines with the operand inputs, the RESET line (R98,
R230), a word of one of the table's other formats (log 6, log 7, log 8, log 9, log 10), or what the host does beside the
block. -/
inductive Presented where
  /-- The request vector `OPREQ[3:0]` and the operand inputs. -/
  | opreq (lines : BitVec 4) (inputs : OperandInputs)
  /-- The RESET line. -/
  | resetLine
  /-- A 16-byte frame that the radio hands over. -/
  | frame (bytes : FrameBytes)
  /-- The byte `CTRL_FLAGS` of a Control frame. -/
  | ctrlFlags (flags : Byte)
  /-- A direct evaluation of ENCODE. -/
  | evalEncode (f : Frame)
  /-- A direct evaluation of DECODE. -/
  | evalDecode (bytes : FrameBytes)
  /-- The pseudo-operation CYCLE with its operands. -/
  | pseudoCycle (inputs : OperandInputs)
  /-- No operation of the block: the host puts the radio into the resting mode of the role (R231, R233, log 5). -/
  | restoreRadio
  deriving DecidableEq, Repr, Inhabited

/-- No request asserted: `OPREQ` = 0b0000 (R98). -/
def Presented.noRequest : Presented := .opreq 0#4 OperandInputs.zero

/-- The entry is an act of the host's program, for which a blocked host has to wait (R103, log 10): an asserted request
line, a pseudo-operation, a direct evaluation, a change of the radio's mode. A frame and its flag byte come from the
radio, and the RESET line is one of its own (R98, R230). -/
def Presented.isHostAct : Presented → Bool
  | .opreq lines _ => decide (lines ≠ 0#4)
  | .resetLine => false
  | .frame _ => false
  | .ctrlFlags _ => false
  | .evalEncode _ => true
  | .evalDecode _ => true
  | .pseudoCycle _ => true
  | .restoreRadio => true

end Sys2Proof
end

