-- ==== Sys2Proof/WellFormed.lean ====
section
/-! DEFINITION. Well-formed instructions. Every field of every constructor already has its exact width and every value of
every field is legal (spec/30_encoding.md R87, R88, R93), but for the type byte of an unassigned frame, which is none of
the instance's assigned values (R81, R95). -/

namespace Sys2Proof

/-- The one check the types do not make: an unassigned type value is none of the five assigned ones (R81). -/
def Instr.wf (ty : FrameTypes) : Instr → Bool
  | .frameUnknown => true
  | .frameUnassigned type => decide (type ∉ ty.assigned)
  | .frameControl _ _ _ _ => true
  | .frameStatus _ _ _ => true
  | .frameCalibGet _ _ => true
  | .frameCalibSet _ _ => true
  | .reqNone _ => true
  | .reqStatus _ => true
  | .reqCalibGet _ => true
  | .reqCalibSet _ => true
  | .probe _ => true
  | .tick _ => true
  | .txcycle _ _ _ _ => true
  | .rxpoll => true
  | .listenstep => true
  | .reset => true
  | .codecEncode _ => true
  | .codecDecode _ => true
  | .cycle _ _ _ _ => true

end Sys2Proof
end

