-- ==== Sys2Proof/Decode.lean ====
section
/-! DEFINITION. PacketCodec (spec/40_packet_codec.md: ENCODE and DECODE of a frame over the layouts of
spec/30_encoding.md R80 to R95), the decoder of everything that can stand on the block's inputs (R88, R94, R98), and the
encoder of instructions. -/

namespace Sys2Proof

/-! The memory primitives of a frame buffer (R11, R61): little-endian, for the widths 1, 2 and 4 bytes. -/

/-- `B[off]`; R11 uses it for offsets 0 to 15 only. -/
def byteAt (B : FrameBytes) (off : Nat) : Byte := B[off]?.getD 0#8

/-- `MemRead(B, off, 2)`: the least significant byte stands at the lowest offset (R11). -/
def memRead2 (B : FrameBytes) (off : Nat) : U16 := byteAt B (off + 1) ++ byteAt B off

/-- `MemRead(B, off, 4)` (R11). -/
def memRead4 (B : FrameBytes) (off : Nat) : BitVec 32 := memRead2 B (off + 2) ++ memRead2 B off

/-- `MemWrite(B, off, 1, v)` (R11). -/
def memWrite1 (off : Nat) (v : Byte) (B : FrameBytes) : FrameBytes := B.setIfInBounds off v

/-- `MemWrite(B, off, 2, v)` (R11). -/
def memWrite2 (off : Nat) (v : U16) (B : FrameBytes) : FrameBytes :=
  memWrite1 (off + 1) (v.extractLsb' 8 8) (memWrite1 off (v.extractLsb' 0 8) B)

/-- `MemWrite(B, off, 4, v)` (R11). -/
def memWrite4 (off : Nat) (v : BitVec 32) (B : FrameBytes) : FrameBytes :=
  memWrite2 (off + 2) (v.extractLsb' 16 16) (memWrite2 off (v.extractLsb' 0 16) B)

/-- Sixteen zero bytes: every padding byte is written as 0x00 (R84). -/
def zeroFrame : FrameBytes := Vector.replicate 16 0#8

/-! The flag bytes (R83, R86, R88, R90). -/

/-- The code of a request (R88). -/
def reqCode : Req → BitVec 2
  | .none => 0#2
  | .status => 1#2
  | .calibGet => 2#2
  | .calibSet => 3#2

/-- The request a code names: all four values are assigned (R88). -/
def reqOfCode (code : BitVec 2) : Req :=
  if code = 0#2 then .none else if code = 1#2 then .status else if code = 2#2 then .calibGet else .calibSet

/-- `CTRL_FLAGS = request + 4*sel`, reserved bits 7:5 zero (R86). -/
def ctrlFlags (request : Req) (sel : Sel3) : Byte := 0#3 ++ (sel ++ reqCode request)

/-- `request = CTRL_FLAGS[1:0]` (R86). -/
def ctrlRequest (flags : Byte) : Req := reqOfCode (flags.extractLsb' 0 2)

/-- `sel = CTRL_FLAGS[4:2]` (R86). -/
def ctrlSel (flags : Byte) : Sel3 := flags.extractLsb' 2 3

/-- `STAT_FLAGS = good`, reserved bits 7:1 zero (R90). -/
def statFlags (good : Bool) : Byte := 0#7 ++ BitVec.ofBool good

/-- `good = STAT_FLAGS[0]` (R90). -/
def statGood (flags : Byte) : Bool := flags.getLsbD 0

/-! ENCODE (R110 to R116). -/

/-- The six calibration values at the offsets 2 to 13 (R91). -/
def putCalVals (val : CalVals) (B : FrameBytes) : FrameBytes :=
  B |> memWrite2 2 val.rawMin |> memWrite2 4 val.rawCenter |> memWrite2 6 val.rawMax
    |> memWrite2 8 val.outMin |> memWrite2 10 val.outCenter |> memWrite2 12 val.outMax

/-- `ENCODE(f)` with the type values of the instance: total and pure (R110); one case per variant (R111, R112, R114, R115, R116). -/
def encodeFrame (ty : FrameTypes) : Frame → FrameBytes
  | .unknown => zeroFrame |> memWrite1 0 ty.unknown
  | .control request sel pri aux =>
    zeroFrame |> memWrite1 0 ty.control |> memWrite1 1 (ctrlFlags request sel)
      |> memWrite2 2 pri.throttle |> memWrite2 4 pri.rudder |> memWrite2 6 pri.elevator
      |> memWrite2 8 pri.aileron |> memWrite2 10 pri.channel5
      |> memWrite1 12 aux.aux0 |> memWrite1 13 aux.aux1 |> memWrite1 14 aux.aux2
  | .status good rating batt =>
    zeroFrame |> memWrite1 0 ty.status |> memWrite1 1 (statFlags good) |> memWrite1 2 rating
      |> memWrite4 3 batt
  | .calibGet sel val => zeroFrame |> memWrite1 0 ty.calibGet |> memWrite1 1 sel |> putCalVals val
  | .calibSet sel val => zeroFrame |> memWrite1 0 ty.calibSet |> memWrite1 1 sel |> putCalVals val

/-! DECODE (R117 to R122). -/

/-- The six calibration values at the offsets 2 to 13 (R91, R121). -/
def getCalVals (B : FrameBytes) : CalVals where
  rawMin    := memRead2 B 2
  rawCenter := memRead2 B 4
  rawMax    := memRead2 B 6
  outMin    := memRead2 B 8
  outCenter := memRead2 B 10
  outMax    := memRead2 B 12

/-- The five primary channels at the offsets 2 to 11 (R85, R119). -/
def getPrimary (B : FrameBytes) : Primary where
  throttle := memRead2 B 2
  rudder   := memRead2 B 4
  elevator := memRead2 B 6
  aileron  := memRead2 B 8
  channel5 := memRead2 B 10

/-- The three auxiliary channels at the offsets 12 to 14 (R85, R119). -/
def getAuxiliary (B : FrameBytes) : Auxiliary where
  aux0 := byteAt B 12
  aux1 := byteAt B 13
  aux2 := byteAt B 14

/-- `DECODE(B)` with the type values of the instance: total and pure (R117); byte 0 alone selects the layout (R118), every other type is `Unknown`. -/
def decodeFrame (ty : FrameTypes) (B : FrameBytes) : Frame :=
  if byteAt B 0 = ty.control then
    .control (ctrlRequest (byteAt B 1)) (ctrlSel (byteAt B 1)) (getPrimary B) (getAuxiliary B)
  else if byteAt B 0 = ty.status then .status (statGood (byteAt B 1)) (byteAt B 2) (memRead4 B 3)
  else if byteAt B 0 = ty.calibGet then .calibGet (byteAt B 1) (getCalVals B)
  else if byteAt B 0 = ty.calibSet then .calibSet (byteAt B 1) (getCalVals B)
  else .unknown

/-! The decoder of what stands on the block's inputs. -/

/-- Why a word is rejected. -/
inductive DecodeError where
  /-- `OPREQ` is neither zero nor one-hot: not an operation (R100). -/
  | severalLines (lines : BitVec 4)
  /-- The word has not the one length its format has (R60, R80): the interface cannot express it. -/
  | wrongLength (bytes : Nat)
  /-- The entry is no operation of the block but the host's act on the radio (R233, log 5). -/
  | hostOnRadio
  deriving DecidableEq, Repr

/-- The frame rows of the table: the instruction is the decoded frame; `TYPE_UNKNOWN` and the unassigned types have rows of
their own, and the payload of either is dropped (R94, R95, R118). -/
def decodeFrameRow (ty : FrameTypes) (B : FrameBytes) : Instr :=
  match decodeFrame ty B with
  | .control request sel pri aux => .frameControl request sel pri aux
  | .status good rating batt => .frameStatus good rating batt
  | .calibGet sel val => .frameCalibGet sel val
  | .calibSet sel val => .frameCalibSet sel val
  | .unknown => if byteAt B 0 = ty.unknown then .frameUnknown else .frameUnassigned (byteAt B 0)

/-- The request rows of the table: the second dispatch, on the request code of `CTRL_FLAGS` (R88, R94). -/
def decodeCtrlFlags (flags : Byte) : Instr :=
  match ctrlRequest flags with
  | .none => .reqNone (ctrlSel flags)
  | .status => .reqStatus (ctrlSel flags)
  | .calibGet => .reqCalibGet (ctrlSel flags)
  | .calibSet => .reqCalibSet (ctrlSel flags)

/-- The operation requests: one-hot `OPREQ`, or zero for the block's own step (R98); anything else is no operation
(R100). -/
def decodeOpreq (lines : BitVec 4) (inputs : OperandInputs) : Except DecodeError Instr :=
  if lines = 0b0001#4 then .ok (.probe inputs.cd)
  else if lines = 0b0010#4 then .ok (.tick inputs.now)
  else if lines = 0b0100#4 then .ok (.txcycle inputs.pri inputs.aux inputs.calKind inputs.calSel)
  else if lines = 0b1000#4 then .ok .rxpoll
  else if lines = 0b0000#4 then .ok .listenstep
  else .error (.severalLines lines)

/-- The decoder of an instance with these type values, total on everything that can stand on the block's inputs. -/
def decode (ty : FrameTypes) : Presented → Except DecodeError Instr
  | .opreq lines inputs => decodeOpreq lines inputs
  | .resetLine => .ok .reset
  | .frame bytes => .ok (decodeFrameRow ty bytes)
  | .ctrlFlags flags => .ok (decodeCtrlFlags flags)
  | .evalEncode f => .ok (.codecEncode f)
  | .evalDecode bytes => .ok (.codecDecode bytes)
  | .pseudoCycle inputs => .ok (.cycle inputs.pri inputs.aux inputs.calKind inputs.calSel)
  | .restoreRadio => .error .hostOnRadio

/-! The encoder, written from the same tables. -/

/-- The operand inputs of a transmit cycle (R37, R38). -/
def OperandInputs.ofCycle (pri : Primary) (aux : Auxiliary) (calKind : CalKind) (calSel : Sel3) : OperandInputs :=
  { OperandInputs.zero with pri := pri, aux := aux, calKind := calKind, calSel := calSel }

/-- What stands on the inputs of an instance with these type values for an instruction. -/
def encode (ty : FrameTypes) : Instr → Presented
  | .frameUnknown => .frame (encodeFrame ty .unknown)
  | .frameUnassigned type => .frame (memWrite1 0 type zeroFrame)
  | .frameControl request sel pri aux => .frame (encodeFrame ty (.control request sel pri aux))
  | .frameStatus good rating batt => .frame (encodeFrame ty (.status good rating batt))
  | .frameCalibGet sel val => .frame (encodeFrame ty (.calibGet sel val))
  | .frameCalibSet sel val => .frame (encodeFrame ty (.calibSet sel val))
  | .reqNone sel => .ctrlFlags (ctrlFlags .none sel)
  | .reqStatus sel => .ctrlFlags (ctrlFlags .status sel)
  | .reqCalibGet sel => .ctrlFlags (ctrlFlags .calibGet sel)
  | .reqCalibSet sel => .ctrlFlags (ctrlFlags .calibSet sel)
  | .probe cd => .opreq 0b0001#4 { OperandInputs.zero with cd := cd }
  | .tick now => .opreq 0b0010#4 { OperandInputs.zero with now := now }
  | .txcycle pri aux calKind calSel => .opreq 0b0100#4 (.ofCycle pri aux calKind calSel)
  | .rxpoll => .opreq 0b1000#4 OperandInputs.zero
  | .listenstep => .opreq 0b0000#4 OperandInputs.zero
  | .reset => .resetLine
  | .codecEncode f => .evalEncode f
  | .codecDecode bytes => .evalDecode bytes
  | .cycle pri aux calKind calSel => .pseudoCycle (.ofCycle pri aux calKind calSel)

/-! Words of the opcode table, as numbers or as bytes. -/

/-- The formats of the table that have an encoding (spec/30_encoding.md, its opening). -/
inductive Format where
  | frame
  | ctrlFlags
  | opreq
  deriving DecidableEq, Repr

/-- Byte `k` of a number, byte 0 the least significant. -/
def numByte (w k : Nat) : Byte := BitVec.ofNat 8 (w / 256 ^ k)

/-- The word `w` in a format: a frame of 16 bytes, byte 0 the type; the byte `CTRL_FLAGS`; or the four request lines
with every operand input zero. -/
def wordOf (fmt : Format) (w : Nat) : Presented :=
  match fmt with
  | .frame => .frame (Vector.ofFn fun k : Fin 16 => numByte w k.val)
  | .ctrlFlags => .ctrlFlags (numByte w 0)
  | .opreq => .opreq (BitVec.ofNat 4 w) OperandInputs.zero

/-- Bytes of a format. A frame has exactly 16 of them, each of the other formats one (R60, R80, R98). -/
def ofBytes (fmt : Format) (bytes : List Byte) : Except DecodeError Presented :=
  match fmt, bytes with
  | .ctrlFlags, [flags] => .ok (.ctrlFlags flags)
  | .opreq, [lines] =>
    if lines.extractLsb' 4 4 = 0#4 then .ok (.opreq (lines.extractLsb' 0 4) OperandInputs.zero)
    else .error (.wrongLength 1)
  | .frame, [b0, b1, b2, b3, b4, b5, b6, b7, b8, b9, b10, b11, b12, b13, b14, b15] =>
    .ok (.frame #v[b0, b1, b2, b3, b4, b5, b6, b7, b8, b9, b10, b11, b12, b13, b14, b15])
  | _, other => .error (.wrongLength other.length)

/-- Decoding bytes: total, and a list of another length is rejected by name. -/
def decodeBytes (ty : FrameTypes) (fmt : Format) (bytes : List Byte) : Except DecodeError Instr :=
  match ofBytes fmt bytes with
  | .ok p => decode ty p
  | .error e => .error e

/-- The format in which a bare table word is read (log 11). A word of at most 8 bits is the request vector where its
value is one of the five codes of R98, and `CTRL_FLAGS` otherwise; a longer word is a frame. A word of at most 4 bits can
only be the request vector. -/
def tableFormat (nbits w : Nat) : Format :=
  if nbits ≤ 4 then .opreq
  else if nbits ≤ 8 then (if w = 0 ∨ w = 1 ∨ w = 2 ∨ w = 4 ∨ w = 8 then .opreq else .ctrlFlags)
  else .frame

/-- The table word `w` of `nbits` bits, every higher bit zero. -/
def tableWord (nbits w : Nat) : Presented :=
  wordOf (tableFormat nbits (w % 2 ^ nbits)) (w % 2 ^ nbits)

/-- The instruction the decoder reads from a table word (log 11), with the type values of R7. -/
def decodeTableWord (nbits w : Nat) : Option Instr :=
  match decode FrameTypes.default (tableWord nbits w) with
  | .ok i => some i
  | .error _ => none

end Sys2Proof
end

