-- ==== Sys2Proof/Machine/State.lean ====
section
/-! DEFINITION. The state of one endpoint: the fifteen registers of spec/10_state.md R20, the parameters of the instance
(R7), and what the model keeps of the block's surroundings (R12, R41 to R47, R98). Plain data throughout. -/

namespace Sys2Proof.Machine

open Sys2Proof

/-- `ls_phase`: the sequencer state, which takes the place of a program counter (R27). -/
inductive Phase where
  | idle
  | listen
  deriving DecidableEq, Repr, Inhabited

/-- The registers of the block, all fifteen of them (R20). -/
structure Regs where
  /-- `sq_good`: good probes since the window began, 16 bits, saturating (R21). -/
  sqGood           : BitVec 16
  /-- `sq_weak`: weak probes since the window began, 16 bits, saturating (R22). -/
  sqWeak           : BitVec 16
  /-- `sq_win_start`: the clock value at which the window began (R23). -/
  sqWinStart       : Time
  /-- `sq_rating`: the last computed rating, 8 bits (R24). -/
  sqRating         : BitVec 8
  /-- `sq_good_majority`: one bit (R25). -/
  sqGoodMajority   : Bool
  /-- `ls_phase`: one bit (R27). -/
  lsPhase          : Phase
  /-- `ls_last_tx_time` (R29). -/
  lsLastTxTime     : Time
  /-- `ls_last_rx_time` (R30). -/
  lsLastRxTime     : Time
  /-- `ls_last_latency` (R31). -/
  lsLastLatency    : Time
  /-- `ls_last_status_time` (R32). -/
  lsLastStatusTime : Time
  /-- `ls_req_decision`: a request code, 2 bits (R33). -/
  lsReqDecision    : Req
  /-- `ls_listen_start` (R34). -/
  lsListenStart    : Time
  /-- `STAT_GOOD`: one bit (R36). -/
  statGood         : Bool
  /-- `STAT_RATING`: 8 bits (R36). -/
  statRating       : BitVec 8
  /-- `STAT_BATT`: 32 bits, a pattern (R36). -/
  statBatt         : BattBits
  deriving DecidableEq, Repr, Inhabited

/-- The reset value of every register (R49). -/
def Regs.reset : Regs where
  sqGood           := 0#16
  sqWeak           := 0#16
  sqWinStart       := 0#32
  sqRating         := 0#8
  sqGoodMajority   := false
  lsPhase          := .idle
  lsLastTxTime     := 0#32
  lsLastRxTime     := 0#32
  lsLastLatency    := 0#32
  lsLastStatusTime := 0#32
  lsReqDecision    := .none
  lsListenStart    := 0#32
  statGood         := false
  statRating       := 0#8
  statBatt         := 0#32

/-- The two calibration frame types, as `CalEngine.deliver` names them (R46). -/
inductive CalFrame where
  | calibGet
  | calibSet
  deriving DecidableEq, Repr, Inhabited

/-- One collaborator call with its arguments and its result (R12, R41 to R46, R64). -/
inductive Event where
  /-- `Clock.now() -> t`. -/
  | clockNow (t : Time)
  /-- `Radio.send(B) -> ok`. -/
  | radioSend (bytes : FrameBytes) (ok : Bool)
  /-- `Radio.tryReceive() -> none | some(B)`. -/
  | radioTryReceive (result : Option FrameBytes)
  /-- `Radio.setListening(on)`. -/
  | radioSetListening (on : Bool)
  /-- `Radio.carrierDetected() -> cd`. -/
  | radioCarrierDetected (cd : Bool)
  /-- `Batt.read() -> v`. -/
  | battRead (v : BattBits)
  /-- `Cal.read(sel) -> vals`. -/
  | calRead (sel : Sel3) (vals : CalVals)
  /-- `Act.setPulseWidth(id, v)`. -/
  | actSetPulseWidth (id : Fin 8) (v : U16)
  /-- `CalEngine.deliver(kind, sel, vals)`. -/
  | calEngineDeliver (kind : CalFrame) (sel : Byte) (vals : CalVals)
  deriving DecidableEq, Repr

/-- The answers the collaborators have lined up, each list in the order of the calls; a call beyond the end of its list
is answered by a free value of `Config` (R71, log 2). -/
structure Answers where
  /-- `Clock.now()`. -/
  clock    : List Time
  /-- `Radio.tryReceive()`. -/
  received : List (Option FrameBytes)
  /-- `Radio.carrierDetected()`. -/
  carrier  : List Bool
  /-- `Radio.send`. -/
  sendOk   : List Bool
  /-- `Batt.read()`. -/
  batt     : List BattBits
  /-- `Cal.read(sel)`, whatever `sel` is. -/
  cal      : List CalVals
  deriving DecidableEq, Repr, Inhabited

/-- Nothing lined up. -/
def Answers.none : Answers := ⟨[], [], [], [], [], []⟩

/-- What the model keeps of the surroundings; no register of the block (R40, R47). -/
structure World where
  /-- The mode the block last commanded: `true` listening, `false` transmitting (R41, R47, log 5). -/
  radioListening : Bool
  /-- Frames the radio has received and not yet handed over, oldest first: a poll returns the oldest (R47, R70,
  log 13). -/
  radioHeld      : List FrameBytes
  /-- The answers lined up (log 2). -/
  answers        : Answers
  /-- Whose collaborators these are: the first argument of the free values (R216, log 23). -/
  source         : Nat
  /-- How many collaborator calls were made so far: the second argument of the free answers (log 2). -/
  callCount      : Nat
  /-- How many frames were left with the radio so far: the second argument of the free choice between keeping and losing
  one (log 13). -/
  leftCount      : Nat
  /-- The event trace, oldest call first (R12, log 4). -/
  trace          : List Event
  deriving DecidableEq, Repr

/-- What a direct evaluation of the codec hands back to the host (R98, log 9). -/
inductive CodecResult where
  | encoded (bytes : FrameBytes)
  | decoded (f : Frame)
  deriving DecidableEq, Repr

/-- The state of one endpoint. -/
structure State where
  /-- The block's registers (R20). -/
  regs     : Regs
  /-- The parameters of the instance; no operation writes them (R7, R77, log 1). -/
  params   : Params
  /-- The surroundings (R47). -/
  world    : World
  /-- What the host puts on the block's inputs, one entry for each step; nothing lined up is no request (R98, log 6). -/
  requests : List Presented
  /-- The result of the last direct evaluation of ENCODE or DECODE (log 9). -/
  codecOut : Option CodecResult
  /-- The transmit cycle was begun by `CYCLE`, so that the host is blocked until it ends (R103, log 10). -/
  byCycle  : Bool
  deriving DecidableEq, Repr

/-- The faults of a step. There is none: no operation of the block faults or halts (R200, R221, log 15). -/
inductive Fault
  deriving DecidableEq, Repr

/-- The refusals of a step. -/
inductive Refusal where
  /-- An instruction whose meaning is not written yet; raised by an arm of `exec` only, and safe. -/
  | notModelled (mnemonic : String)
  /-- The operation is not enabled in this state (R28, R101). Raised by the meanings of PROBE, TICK, TXCYCLE, RXPOLL,
  LISTENSTEP, CYCLE, the frames and the request codes; safe, because nothing is then claimed. -/
  | notEnabled
  /-- What stands on the inputs is no instruction: several request lines at once (R100). Raised by `step`; safe. -/
  | undecodable (error : DecodeError)
  /-- The radio is not in the resting mode of the role, which a duty of the host's makes a premise of the operations that
  use it (R220, R221, R233; spec/93_implementation_defined.md U19, "refuse"). Raised by the meanings of TXCYCLE, RXPOLL,
  CYCLE, and at a receiver the frames and the request codes; safe, because nothing is then claimed. -/
  | radioNotResting
  /-- Not one of the steps of R28, asked of an endpoint of the two-endpoint system. Raised by `System.step`; safe. -/
  | notAStep
  deriving DecidableEq, Repr

/-- The resting mode of the radio: listening at a receiver, transmitting at a transmitter (R233). -/
def restingMode (role : Role) : Bool := decide (role = .rx)

/-- The number of an endpoint's own collaborators right after reset (log 23). -/
def sourceOf : Role → Nat
  | .tx => 0
  | .rx => 1

/-- An endpoint with these parameters right after reset, its radio in the resting mode of the role (R49, R233). -/
def State.resetWith (p : Params) : State where
  regs     := Regs.reset
  params   := p
  world    := { radioListening := restingMode p.role, radioHeld := [], answers := Answers.none, source := sourceOf p.role,
                callCount := 0, leftCount := 0, trace := [] }
  requests := []
  codecOut := none
  byCycle  := false

/-- The machine right after reset: a transmitter (log 1). -/
def State.reset : State := State.resetWith (Params.default .tx)

end Sys2Proof.Machine
end

