-- ==== Sys2Proof/Machine/Flags.lean ====
section
/-! DEFINITION. The computations behind the rating and the majority flag of the estimator, and the interval tests
(spec/41_signal_quality.md R133 to R137; spec/60_exceptions.md R213). -/

namespace Sys2Proof.Machine

open Sys2Proof

/-- `a -t b`: the elapsed time, modulo 2^32, compared unsigned (R9, R213). -/
def elapsed (a b : Time) : Nat := (a - b).toNat

/-- `sat_16(v + 1)` of a counter: it stays at its largest value (R9, R132). -/
def satSucc (v : BitVec 16) : BitVec 16 := BitVec.ofNat 16 (min (v.toNat + 1) Config.cntMax)

/-- The density component, 0 to `RATING_HALF`: the multiplication comes before the truncating division (R133 line 7, R135). -/
def density (p : Params) (n : Nat) : Nat := min (p.ratingHalf * n / p.tSamples) p.ratingHalf

/-- The quality component, 0 to `RATING_HALF` (R133 line 8, R135). -/
def quality (p : Params) (good n : Nat) : Nat := p.ratingHalf * good / n

/-- The rating of a window that closes with these counts (R133 lines 2 to 9); computed in unbounded naturals (R137). -/
def windowRating (p : Params) (good weak : Nat) : BitVec 8 :=
  if good + weak = 0 then 0#8
  else BitVec.ofNat 8 (density p (good + weak) + quality p good (good + weak))

/-- The majority flag of a window that closes with these counts: strictly more good probes than weak ones (R133 lines 5
and 10, R134). -/
def windowMajority (good weak : Nat) : Bool := if good + weak = 0 then false else decide (weak < good)

/-- The estimator's window has run its length: `(now -t sq_win_start) >= W_MS` (R133 line 1). -/
abbrev Regs.windowElapsed (p : Params) (now : Time) (r : Regs) : Prop := p.wMs ≤ elapsed now r.sqWinStart

/-- A status fetch is due: `(t -t ls_last_status_time) > FETCH_INTERVAL_MS`, strictly (R151). -/
abbrev Regs.fetchDue (p : Params) (t : Time) (r : Regs) : Prop := p.fetchIntervalMs < elapsed t r.lsLastStatusTime

/-- The listen window has expired: `(t -t ls_listen_start) >= LISTEN_DURATION_MS` (R157). -/
abbrev Regs.listenExpired (p : Params) (t : Time) (r : Regs) : Prop :=
  p.listenDurationMs ≤ elapsed t r.lsListenStart

end Sys2Proof.Machine
end

