-- ==== Sys2Proof/Machine/Operands.lean ====
section
/-! DEFINITION. How operands become what the block sends: the request decision and the Control frame of the transmitter
(spec/42_link_transmitter.md R151, R152), the replies and the clamped actuator commands of the receiver
(spec/43_link_receiver.md R185, R187, R191). -/

namespace Sys2Proof.Machine

open Sys2Proof

/-- `DECIDE(t, cal_req_kind)`: the fetch interval gates calibration requests too, and an outstanding one takes the place
of the status request (R151). -/
def decideRequest (p : Params) (r : Regs) (t : Time) (calKind : CalKind) : Req :=
  if r.fetchDue p t then
    match calKind with
    | .get => .calibGet
    | .set => .calibSet
    | .noCal => .status
  else .none

/-- The selector of the Control frame: `cal_req_sel` when the request addresses calibration, 0 otherwise (R152). -/
def requestSel (request : Req) (calSel : Sel3) : Sel3 :=
  match request with
  | .calibGet => calSel
  | .calibSet => calSel
  | .none => 0#3
  | .status => 0#3

/-- The Control frame of a cycle: the channel values unchanged (R150 line 4, R152). -/
def controlFrame (request : Req) (pri : Primary) (aux : Auxiliary) (calSel : Sel3) : Frame :=
  .control request (requestSel request calSel) pri aux

/-- The Status frame of a reply: rating and majority of the last window that closed (R185 line 3). -/
def statusReply (r : Regs) (v : BattBits) : Frame := .status r.sqGoodMajority r.sqRating v

/-- The calibration frame of a reply: its type is the request's (R187 line 3). -/
def calibReply (kind : CalFrame) (sel : Sel3) (val : CalVals) : Frame :=
  match kind with
  | .calibGet => .calibGet (sel.setWidth 8) val
  | .calibSet => .calibSet (sel.setWidth 8) val

/-- `clamp(v, lo, hi)` of unsigned values (R9). -/
def clampU {n : Nat} (v lo hi : BitVec n) : BitVec n :=
  if v.toNat < lo.toNat then lo else if hi.toNat < v.toNat then hi else v

/-- A primary channel as the actuator output takes it (R180 line 15, R191). -/
def clampPri (p : Params) (v : U16) : U16 := clampU v p.actPriMin p.actPriMax

/-- An auxiliary channel as the actuator output takes it: clamped, then zero-extended (R180 line 17, R191). -/
def clampAux (p : Params) (v : Byte) : U16 := (clampU v p.actAuxMin p.actAuxMax).setWidth 16

/-- The eight actuator commands of a Control frame, in the order of the calls: a function of the channel values and of
the four clamp parameters alone (R191). -/
def actuatorCommands (p : Params) (pri : Primary) (aux : Auxiliary) : List (Fin 8 × U16) :=
  [(0, clampPri p pri.throttle), (1, clampPri p pri.rudder), (2, clampPri p pri.elevator),
   (3, clampPri p pri.aileron), (4, clampPri p pri.channel5),
   (5, clampAux p aux.aux0), (6, clampAux p aux.aux1), (7, clampAux p aux.aux2)]

end Sys2Proof.Machine
end

