-- ==== Sys2Proof/Machine/Ops.lean ====
section
/-! DEFINITION. The shared operations: the collaborator calls (spec/10_state.md R41 to R46; each is one event of the
trace, R12), the register writes of the rules, and the parts of steps that several operations share (PROBE and TICK, R131
and R133; FINISH, R162; the reply bracket, R188; forwarding to the actuators, R191).

Taking an exception and returning from one: the block has neither (spec/60_exceptions.md R200, R209, R210). A condition
changes only what its rule lists, and the step ends. -/

namespace Sys2Proof.Machine

open Sys2Proof

/-! Collaborator calls. `World.next…` is what the next call of its kind answers, `World.call…` is the call. -/

/-- One more event of the trace, and one more answer given. -/
def World.record (e : Event) (w : World) : World := { w with trace := w.trace ++ [e], callCount := w.callCount + 1 }

/-- The clock's next answer (R42). -/
def World.nextClock (w : World) : Time := w.answers.clock.headD (Config.freeClock w.source w.callCount)

/-- `Clock.now()`. -/
def World.callClock (w : World) : World :=
  { w with answers := { w.answers with clock := w.answers.clock.tail } }.record (.clockNow w.nextClock)

/-- The radio's next answer to a poll: the oldest frame it holds, or else its next answer lined up (R41, R68, R70). -/
def World.nextReceived (w : World) : Option FrameBytes :=
  match w.radioHeld with
  | bytes :: _ => some bytes
  | [] => w.answers.received.headD (Config.freeReceive w.source w.callCount)

/-- The poll's answer is used up: a frame it returns is removed from the radio (R41, R64). -/
def World.takeReceived (w : World) : World :=
  match w.radioHeld with
  | _ :: rest => { w with radioHeld := rest }
  | [] => { w with answers := { w.answers with received := w.answers.received.tail } }

/-- `Radio.tryReceive()` (R41, R64). -/
def World.callTryReceive (w : World) : World := w.takeReceived.record (.radioTryReceive w.nextReceived)

/-- The next carrier-detect sample (R41). -/
def World.nextCarrier (w : World) : Bool := w.answers.carrier.headD (Config.freeCarrier w.source w.callCount)

/-- `Radio.carrierDetected()`. -/
def World.callCarrierDetected (w : World) : World :=
  { w with answers := { w.answers with carrier := w.answers.carrier.tail } }.record (.radioCarrierDetected w.nextCarrier)

/-- Whether the next send succeeds; the block discards it (R41, R206). -/
def World.nextSendOk (w : World) : Bool := w.answers.sendOk.headD (Config.freeSendOk w.source w.callCount)

/-- `Radio.send(B)`. -/
def World.callSend (bytes : FrameBytes) (w : World) : World :=
  { w with answers := { w.answers with sendOk := w.answers.sendOk.tail } }.record (.radioSend bytes w.nextSendOk)

/-- `Radio.setListening(on)`. -/
def World.callSetListening (on : Bool) (w : World) : World :=
  { w with radioListening := on }.record (.radioSetListening on)

/-- The battery reader's next answer (R43). -/
def World.nextBatt (w : World) : BattBits := w.answers.batt.headD (Config.freeBatt w.source w.callCount)

/-- `Batt.read()`. -/
def World.callBattRead (w : World) : World :=
  { w with answers := { w.answers with batt := w.answers.batt.tail } }.record (.battRead w.nextBatt)

/-- The calibration holder's next answer (R44). -/
def World.nextCal (sel : Sel3) (w : World) : CalVals := w.answers.cal.headD (Config.freeCal w.source w.callCount sel)

/-- `Cal.read(sel)`. -/
def World.callCalRead (sel : Sel3) (w : World) : World :=
  { w with answers := { w.answers with cal := w.answers.cal.tail } }.record (.calRead sel (w.nextCal sel))

/-- `Act.setPulseWidth(id, v)`. -/
def World.callSetPulseWidth (id : Fin 8) (v : U16) (w : World) : World := w.record (.actSetPulseWidth id v)

/-- `CalEngine.deliver(kind, sel, vals)`. -/
def World.callDeliver (kind : CalFrame) (sel : Byte) (vals : CalVals) (w : World) : World :=
  w.record (.calEngineDeliver kind sel vals)

/-- A frame reaches the radio and is held behind those it holds already: the link never reorders (R68). -/
def World.hold (bytes : FrameBytes) (w : World) : World := { w with radioHeld := w.radioHeld ++ [bytes] }

/-- A frame that the next poll does not obtain: the radio holds it for a later one, behind what it holds, or loses it.
R70 and U12 admit both, so a free value chooses (log 13). -/
def World.leaveFrame (bytes : FrameBytes) (w : World) : World :=
  { w with
    radioHeld := w.radioHeld ++ if Config.freeKeep w.source w.leftCount then [bytes] else []
    leftCount := w.leftCount + 1 }

/-- A frame reaches the radio of an endpoint that is about to poll. A radio that holds nothing hands it over; where older
frames are held the poll obtains the oldest of them (R68, R208), and this one waits (log 7). -/
def World.arriveFrame (bytes : FrameBytes) (w : World) : World :=
  match w.radioHeld with
  | [] => w.hold bytes
  | _ :: _ => w.leaveFrame bytes

/-! Register writes. -/

/-- `PROBE(cd)`: exactly one counter, saturating (R131, R132). -/
def Regs.probe (cd : Bool) (r : Regs) : Regs :=
  if cd then { r with sqGood := satSucc r.sqGood } else { r with sqWeak := satSucc r.sqWeak }

/-- The close of an estimator window: rating and majority from the counts, counters cleared, the new window starts at
`now` (R133 lines 2 to 13). -/
def Regs.closeWindow (p : Params) (now : Time) (r : Regs) : Regs :=
  { r with
    sqRating := windowRating p r.sqGood.toNat r.sqWeak.toNat
    sqGoodMajority := windowMajority r.sqGood.toNat r.sqWeak.toNat
    sqGood := 0#16
    sqWeak := 0#16
    sqWinStart := now }

/-- `TICK(now)`: closes the window when it has run its length, else changes nothing (R133, R136). -/
def Regs.tick (p : Params) (now : Time) (r : Regs) : Regs :=
  if r.windowElapsed p now then r.closeWindow p now else r

/-- The request decision of a cycle is stored (R150 line 3, R151). -/
def Regs.setDecision (request : Req) (r : Regs) : Regs := { r with lsReqDecision := request }

/-- The time of a send (R150 line 7, R185 line 5, R187 line 5). -/
def Regs.noteSend (t : Time) (r : Regs) : Regs := { r with lsLastTxTime := t }

/-- The time of a reception (R156 line 11, R180 line 4). -/
def Regs.noteReceive (t : Time) (r : Regs) : Regs := { r with lsLastRxTime := t }

/-- The round-trip latency `t -t ls_last_tx_time` (R156 line 12, R158). -/
def Regs.noteLatency (t : Time) (r : Regs) : Regs := { r with lsLastLatency := t - r.lsLastTxTime }

/-- The listen window opens (R150 lines 10 and 11, R155). -/
def Regs.openListen (t : Time) (r : Regs) : Regs := { r with lsListenStart := t, lsPhase := .listen }

/-- The listen window ends (R156 lines 5 and 16). -/
def Regs.endListen (r : Regs) : Regs := { r with lsPhase := .idle }

/-- The held status registers take the fields of a Status frame, all three together (R35, R160). -/
def Regs.holdStatus (good : Bool) (rating : Byte) (batt : BattBits) (t : Time) (r : Regs) : Regs :=
  { r with statGood := good, statRating := rating, statBatt := batt, lsLastStatusTime := t }

/-! The two parts of the state that steps write. -/

/-- A change of the registers. -/
def State.onRegs (f : Regs → Regs) (s : State) : State := { s with regs := f s.regs }

/-- Calls on the collaborators. -/
def State.onWorld (f : World → World) (s : State) : State := { s with world := f s.world }

/-- The radio is in the resting mode of the role, as R233 asks before an operation (R220, R221; U19). -/
abbrev State.radioRests (s : State) : Prop := s.world.radioListening = restingMode s.params.role

/-- An operation enabled under `enabled` (R28, R98) that begins at the radio: refused when it is not enabled (R101) and
when the radio is not in the resting mode of the role (R220, R221; U19, log 5). -/
def State.guarded (s : State) (enabled : Prop) [Decidable enabled] (t : State) : Host.Outcome State Fault Refusal :=
  if enabled then (if s.radioRests then .next t else .refused .radioNotResting) else .refused .notEnabled

/-- The host puts the radio into the resting mode of the role; the block does nothing (R231, R233). During a listen
window the host can do nothing (R103, R240). -/
def State.restoreRadio (s : State) : Host.Outcome State Fault Refusal :=
  if s.regs.lsPhase = .idle then
    .next (s.onWorld fun w => { w with radioListening := restingMode s.params.role })
  else .refused .notEnabled

/-! Parts of steps. -/

/-- `PROBE` with a sample of `Radio.carrierDetected()` (R162 lines 2 and 3, R182). -/
def State.probeCarrier (s : State) : State :=
  (s.onWorld World.callCarrierDetected).onRegs (Regs.probe s.world.nextCarrier)

/-- `TICK(t)`. -/
def State.tickAt (t : Time) (s : State) : State := s.onRegs (Regs.tick s.params t)

/-- `FINISH(t)`, the end of every transmitter cycle (R162). -/
def State.finish (t : Time) (s : State) : State :=
  if s.params.hasCarrierSense then s.probeCarrier.tickAt t else s.tickAt t

/-- One reply of the receiver: the bracket of mode switches around the send, and the time of the send (R185, R187,
R188). `f` is the frame, `read` the collaborator read that R188 puts between the mode switch and the send. -/
def State.replyWith (read : World → World) (f : Frame) (t : Time) (s : State) : State :=
  (s.onWorld fun w =>
      ((read (w.callSetListening false)).callSend (encodeFrame s.params.types f)).callSetListening true).onRegs
    (Regs.noteSend t)

/-- `REPLY_STATUS(t)` (R185). -/
def State.replyStatus (t : Time) (s : State) : State :=
  s.replyWith World.callBattRead (statusReply s.regs (s.world.callSetListening false).nextBatt) t

/-- `REPLY_CALIB(request, sel, t)`: the current stored values, and nothing is stored (R187). -/
def State.replyCalib (kind : CalFrame) (sel : Sel3) (t : Time) (s : State) : State :=
  s.replyWith (World.callCalRead sel) (calibReply kind sel ((s.world.callSetListening false).nextCal sel)) t

/-- The selector names a calibration channel: `sel <= 5` (R93, R186). -/
abbrev namesChannel (sel : Sel3) : Prop := sel.toNat < Config.nCalChannels

/-- The reply to a request, if there is one (R180 lines 9 to 13, R186). -/
def State.reply (request : Req) (sel : Sel3) (t : Time) (s : State) : State :=
  match request with
  | .none => s
  | .status => s.replyStatus t
  | .calibGet => if namesChannel sel then s.replyCalib .calibGet sel t else s
  | .calibSet => if namesChannel sel then s.replyCalib .calibSet sel t else s

/-- Actuator commands, one call each, in order (R191). -/
def World.drive (commands : List (Fin 8 × U16)) (w : World) : World :=
  commands.foldl (fun w c => w.callSetPulseWidth c.1 c.2) w

/-- The eight actuator calls of a Control frame (R180 lines 14 to 17, R191). -/
def State.forward (pri : Primary) (aux : Auxiliary) (s : State) : State :=
  s.onWorld (World.drive (actuatorCommands s.params pri aux))

end Sys2Proof.Machine
end

