-- ==== Sys2Proof/Machine/Estimator.lean ====
section
/-! DEFINITION. SignalQualityEstimator: PROBE and TICK as the host requests them (spec/41_signal_quality.md R131, R133),
enabled while `ls_phase = IDLE` (R28, R98). -/

namespace Sys2Proof.Machine

open Sys2Proof

/-- PROBE (R131). -/
def execProbe (cd : Bool) (s : State) : Host.Outcome State Fault Refusal :=
  if s.regs.lsPhase = .idle then .next (s.onRegs (Regs.probe cd)) else .refused .notEnabled

/-- TICK (R133). -/
def execTick (now : Time) (s : State) : Host.Outcome State Fault Refusal :=
  if s.regs.lsPhase = .idle then .next (s.tickAt now) else .refused .notEnabled

end Sys2Proof.Machine
end

