-- ==== Sys2Proof/Machine/Receiver.lean ====
section
/-! DEFINITION. LinkSession, receiver role: RXPOLL (spec/43_link_receiver.md R180 to R193), and the four request codes of
a Control frame as the receiver's second dispatch executes them (R88, R94, R185 to R187). -/

namespace Sys2Proof.Machine

open Sys2Proof

/-- The enabling condition of RXPOLL (R28, R98). -/
abbrev State.rxReady (s : State) : Prop := s.params.role = .rx ∧ s.regs.lsPhase = .idle

/-- A frame the poll obtained: receive time, one probe, then its type decides; only a Control frame has an effect (R180
lines 4 to 18, R181 to R184). The reply comes before the actuators (R189). -/
def State.handle (bytes : FrameBytes) (t : Time) (s : State) : State :=
  let probed := (s.onRegs (Regs.noteReceive t)).probeCarrier
  match decodeFrame s.params.types bytes with
  | .control request sel pri aux => (probed.reply request sel t).forward pri aux
  | .status _ _ _ => probed
  | .calibGet _ _ => probed
  | .calibSet _ _ => probed
  | .unknown => probed

/-- The RXPOLL step (R180). -/
def State.rxpollStep (s : State) : State :=
  let t := s.world.nextClock
  let sampled := s.onWorld World.callClock
  let polled := sampled.onWorld World.callTryReceive
  match sampled.world.nextReceived with
  | none => polled.tickAt t
  | some bytes => (polled.handle bytes t).tickAt t

/-- RXPOLL (R180). -/
def execRxpoll (s : State) : Host.Outcome State Fault Refusal :=
  s.guarded s.rxReady s.rxpollStep

/-- A request code by itself (log 8): the receiver samples its clock and makes the reply that the code and the selector
ask for; a transmitter discards what is not for it (R95, R161). -/
def execRequest (request : Req) (sel : Sel3) (s : State) : Host.Outcome State Fault Refusal :=
  if s.params.role = .tx then .next s
  else s.guarded s.rxReady ((s.onWorld World.callClock).reply request sel s.world.nextClock)

/-- REQ.NONE: no reply (R186). -/
def execReqNone (sel : Sel3) (s : State) : Host.Outcome State Fault Refusal := execRequest .none sel s

/-- REQ.STATUS: a Status frame is the reply (R185). -/
def execReqStatus (sel : Sel3) (s : State) : Host.Outcome State Fault Refusal := execRequest .status sel s

/-- REQ.CALIBGET: a CalibGet frame with the stored values of the channel, or no reply when there is no such channel
(R186, R187). -/
def execReqCalibGet (sel : Sel3) (s : State) : Host.Outcome State Fault Refusal := execRequest .calibGet sel s

/-- REQ.CALIBSET: a CalibSet frame with the stored values of the channel, or no reply; nothing is stored (R186, R187). -/
def execReqCalibSet (sel : Sel3) (s : State) : Host.Outcome State Fault Refusal := execRequest .calibSet sel s

end Sys2Proof.Machine
end

