-- ==== Sys2Proof/Machine/Transmitter.lean ====
section
/-! DEFINITION. LinkSession, transmitter role: TXCYCLE, LISTENSTEP (spec/42_link_transmitter.md R150 to R162) and the
pseudo-operation CYCLE (spec/30_encoding.md R103). -/

namespace Sys2Proof.Machine

open Sys2Proof

/-- The enabling condition of TXCYCLE (R28, R98). -/
abbrev State.txReady (s : State) : Prop := s.params.role = .tx ∧ s.regs.lsPhase = .idle

/-- The enabling condition of LISTENSTEP (R28, R156). -/
abbrev State.txListening (s : State) : Prop := s.params.role = .tx ∧ s.regs.lsPhase = .listen

/-- The TXCYCLE step: one clock sample, the decision, one send, then either the listen window or FINISH (R150). -/
def State.txcycleStep (pri : Primary) (aux : Auxiliary) (calKind : CalKind) (calSel : Sel3) (s : State) : State :=
  let t := s.world.nextClock
  let request := decideRequest s.params s.regs t calKind
  let sent := ((s.onWorld World.callClock).onRegs (Regs.setDecision request)).onWorld
    (World.callSend (encodeFrame s.params.types (controlFrame request pri aux calSel)))
  let noted := sent.onRegs (Regs.noteSend t)
  if request = .none then noted.finish t
  else (noted.onWorld (World.callSetListening true)).onRegs (Regs.openListen t)

/-- `PROCESS(f, t)` (R160, R161): a Status frame is held, a calibration frame is handed on, anything else is
discarded. -/
def State.process (f : Frame) (t : Time) (s : State) : State :=
  match f with
  | .status good rating batt => s.onRegs (Regs.holdStatus good rating batt t)
  | .calibGet sel val => s.onWorld (World.callDeliver .calibGet sel val)
  | .calibSet sel val => s.onWorld (World.callDeliver .calibSet sel val)
  | .control _ _ _ _ => s
  | .unknown => s

/-- The end of a listen window: back to transmitting mode, FINISH, `IDLE` (R156 lines 3 to 5 and 14 to 16). -/
def State.endCycle (t : Time) (s : State) : State :=
  ((s.onWorld (World.callSetListening false)).finish t).onRegs Regs.endListen

/-- The frame a listen window waited for (R156 lines 11 to 16). -/
def State.arrive (bytes : FrameBytes) (t : Time) (s : State) : State :=
  (((s.onRegs (Regs.noteReceive t)).onRegs (Regs.noteLatency t)).process (decodeFrame s.params.types bytes) t).endCycle t

/-- The LISTENSTEP step: the deadline is tested first, and an expired window is not polled (R156, R157). -/
def State.listenStep (s : State) : State :=
  let t := s.world.nextClock
  let sampled := s.onWorld World.callClock
  if s.regs.listenExpired s.params t then sampled.endCycle t
  else
    let polled := sampled.onWorld World.callTryReceive
    match sampled.world.nextReceived with
    | none => polled
    | some bytes => polled.arrive bytes t

/-- How the transmit cycle was begun: by `CYCLE`, for which the host waits, or by `TXCYCLE` (R103, log 10). -/
def State.begunBy (cycle : Bool) (s : State) : State := { s with byCycle := cycle }

/-- TXCYCLE (R150). -/
def execTxcycle (pri : Primary) (aux : Auxiliary) (calKind : CalKind) (calSel : Sel3) (s : State) :
    Host.Outcome State Fault Refusal :=
  s.guarded s.txReady ((s.txcycleStep pri aux calKind calSel).begunBy false)

/-- LISTENSTEP: with no request asserted the block takes it while `ls_phase = LISTEN`, and does nothing in `IDLE` (R98,
R156). A receiver is never in `LISTEN` (R27); there it is not enabled (R28, log 17). -/
def execListenstep (s : State) : Host.Outcome State Fault Refusal :=
  if s.regs.lsPhase = .idle then .next s
  else if s.params.role = .tx then .next s.listenStep
  else .refused .notEnabled

/-- LISTENSTEPs until `ls_phase = IDLE`, at most `fuel` of them. -/
def State.listenFor : Nat → State → State
  | 0, s => s
  | fuel + 1, s => if s.regs.lsPhase = .listen then State.listenFor fuel s.listenStep else s

/-- CYCLE: one TXCYCLE, then LISTENSTEPs until `ls_phase = IDLE` (R103). The number of LISTENSTEPs is not bounded by the
block (R164): they run here for as long as clock samples are lined up. The ones beyond are the block's own next steps,
and until the last of them the host stays blocked: `step` lets its next entry wait (log 10). -/
def execCycle (pri : Primary) (aux : Auxiliary) (calKind : CalKind) (calSel : Sel3) (s : State) :
    Host.Outcome State Fault Refusal :=
  s.guarded s.txReady (((s.txcycleStep pri aux calKind calSel).begunBy true).listenFor
    (s.txcycleStep pri aux calKind calSel).world.answers.clock.length)

end Sys2Proof.Machine
end

