-- ==== Sys2Proof/Machine/Frames.lean ====
section
/-! DEFINITION. The frames as instructions: what an endpoint does with a frame of each type that the radio hands over
(spec/42_link_transmitter.md R158 to R161, spec/43_link_receiver.md R181 to R191), and ENCODE and DECODE evaluated
directly (spec/40_packet_codec.md R110, R117; spec/30_encoding.md R98). -/

namespace Sys2Proof.Machine

open Sys2Proof

/-- A frame reaches the endpoint's radio (log 7), behind the frames the radio holds already, and the endpoint takes its
polling step: RXPOLL at a receiver, LISTENSTEP at a transmitter that listens. A window whose deadline this step finds
expired is not polled (R157), and a transmitter in `IDLE` does not poll (R155): the frame is then left with the radio
(R70). A receiver is never in `LISTEN` (R27, log 17). -/
def frameAtRadio (bytes : FrameBytes) (s : State) : Host.Outcome State Fault Refusal :=
  match s.params.role, s.regs.lsPhase with
  | .rx, _ => s.guarded s.rxReady (s.onWorld (World.arriveFrame bytes)).rxpollStep
  | .tx, .idle => .next (s.onWorld (World.leaveFrame bytes))
  | .tx, .listen =>
    .next (if s.regs.listenExpired s.params s.world.nextClock then s.listenStep.onWorld (World.leaveFrame bytes)
      else (s.onWorld (World.arriveFrame bytes)).listenStep)

/-- FRAME.UNKNOWN (R116, R118). -/
def execFrameUnknown (s : State) : Host.Outcome State Fault Refusal :=
  frameAtRadio (encodeFrame s.params.types .unknown) s

/-- FRAME.UNASSIGNED (R95, R118): its other bytes are dropped, so they are zero here (log 14). -/
def execFrameUnassigned (type : Byte) (s : State) : Host.Outcome State Fault Refusal :=
  frameAtRadio (memWrite1 0 type zeroFrame) s

/-- FRAME.CONTROL (R111, R119). -/
def execFrameControl (request : Req) (sel : Sel3) (pri : Primary) (aux : Auxiliary) (s : State) :
    Host.Outcome State Fault Refusal :=
  frameAtRadio (encodeFrame s.params.types (.control request sel pri aux)) s

/-- FRAME.STATUS (R112, R120). -/
def execFrameStatus (good : Bool) (rating : Byte) (batt : BattBits) (s : State) :
    Host.Outcome State Fault Refusal :=
  frameAtRadio (encodeFrame s.params.types (.status good rating batt)) s

/-- FRAME.CALIBGET (R114, R121). -/
def execFrameCalibGet (sel : Byte) (val : CalVals) (s : State) : Host.Outcome State Fault Refusal :=
  frameAtRadio (encodeFrame s.params.types (.calibGet sel val)) s

/-- FRAME.CALIBSET (R115, R122). -/
def execFrameCalibSet (sel : Byte) (val : CalVals) (s : State) : Host.Outcome State Fault Refusal :=
  frameAtRadio (encodeFrame s.params.types (.calibSet sel val)) s

/-- ENCODE evaluated by the host: a pure function, no register, no call (R98, R110); its value is handed back (log 9). -/
def execCodecEncode (f : Frame) (s : State) : Host.Outcome State Fault Refusal :=
  .next { s with codecOut := some (.encoded (encodeFrame s.params.types f)) }

/-- DECODE evaluated by the host: a pure function, no register, no call (R98, R117); its value is handed back (log 9). -/
def execCodecDecode (bytes : FrameBytes) (s : State) : Host.Outcome State Fault Refusal :=
  .next { s with codecOut := some (.decoded (decodeFrame s.params.types bytes)) }

end Sys2Proof.Machine
end

