-- ==== Sys2Proof/Machine/Restart.lean ====
section
/-! DEFINITION. RESET (spec/70_reset_and_hazards.md R230, R231). -/

namespace Sys2Proof.Machine

open Sys2Proof

/-- RESET: enabled in every state; every register takes its reset value; no collaborator is called, so inside a listen
window the radio is left listening (R230, R231). -/
def execReset (s : State) : Host.Outcome State Fault Refusal := .next (s.onRegs fun _ => Regs.reset)

end Sys2Proof.Machine
end

