-- ==== Sys2Proof/Machine/Dispatch.lean ====
section
/-! DEFINITION. One arm for each row of spec/opcode_table.json. -/

namespace Sys2Proof.Machine

open Sys2Proof

/-- What an instruction does. -/
def exec (i : Instr) (s : State) : Host.Outcome State Fault Refusal :=
  match i with
  | .frameUnknown => Sys2Proof.Machine.execFrameUnknown s
  | .frameUnassigned type => Sys2Proof.Machine.execFrameUnassigned type s
  | .frameControl request sel pri aux => Sys2Proof.Machine.execFrameControl request sel pri aux s
  | .frameStatus good rating batt => Sys2Proof.Machine.execFrameStatus good rating batt s
  | .frameCalibGet sel val => Sys2Proof.Machine.execFrameCalibGet sel val s
  | .frameCalibSet sel val => Sys2Proof.Machine.execFrameCalibSet sel val s
  | .reqNone sel => Sys2Proof.Machine.execReqNone sel s
  | .reqStatus sel => Sys2Proof.Machine.execReqStatus sel s
  | .reqCalibGet sel => Sys2Proof.Machine.execReqCalibGet sel s
  | .reqCalibSet sel => Sys2Proof.Machine.execReqCalibSet sel s
  | .probe cd => Sys2Proof.Machine.execProbe cd s
  | .tick now => Sys2Proof.Machine.execTick now s
  | .txcycle pri aux calKind calSel => Sys2Proof.Machine.execTxcycle pri aux calKind calSel s
  | .rxpoll => Sys2Proof.Machine.execRxpoll s
  | .listenstep => Sys2Proof.Machine.execListenstep s
  | .reset => Sys2Proof.Machine.execReset s
  | .codecEncode f => Sys2Proof.Machine.execCodecEncode f s
  | .codecDecode bytes => Sys2Proof.Machine.execCodecDecode bytes s
  | .cycle pri aux calKind calSel => Sys2Proof.Machine.execCycle pri aux calKind calSel s

end Sys2Proof.Machine
end

