-- ==== Sys2Proof/Machine/Step.lean ====
section
/-! DEFINITION. One step of an endpoint: what stands on its inputs is decoded and executed (spec/10_state.md R28;
spec/30_encoding.md R98, R100). -/

namespace Sys2Proof.Machine

open Sys2Proof

/-- What stands on the inputs in this step: the host's next entry, or no request (R98, log 6). -/
def State.presented (s : State) : Presented := s.requests.headD Presented.noRequest

/-- The entry is used up. -/
def State.pastRequest (s : State) : State := { s with requests := s.requests.tail }

/-- The host waits: it requested a CYCLE, which blocks it until `ls_phase = IDLE` again, and its next entry is an act of
its own (R103, R240, log 10). -/
abbrev State.hostWaits (s : State) : Prop :=
  s.byCycle = true ∧ s.regs.lsPhase = .listen ∧ s.presented.isHostAct = true

/-- One step. While the host waits no request is asserted: the block takes its own LISTENSTEP, and the entry is not used
up. Several request lines at once are no operation and are refused (R100). -/
def step (s : State) : Host.Outcome State Fault Refusal :=
  if s.hostWaits then exec .listenstep s
  else
    match decode s.params.types s.presented with
    | .ok i => exec i s.pastRequest
    | .error .hostOnRadio => s.pastRequest.restoreRadio
    | .error (.severalLines lines) => .refused (.undecodable (.severalLines lines))
    | .error (.wrongLength bytes) => .refused (.undecodable (.wrongLength bytes))

/-- The instance of this role: `ROLE` selects which of TXCYCLE and RXPOLL is enabled (R212), and the radio rests in the
mode of the role (R233, log 12). -/
def State.asRole (role : Role) (s : State) : State :=
  if s.params.role = role then s
  else { s with
    params := { s.params with role := role }
    world := { s.world with radioListening := restingMode role } }

/-- The state with a table word as the host's next entry, which no CYCLE makes wait. RXPOLL and TXCYCLE exist only in
one configuration of the block each (R2), so their word also selects that configuration (log 12). -/
def State.withFetchWord (s : State) (nbits w : Nat) : State :=
  let selected :=
    match tableWord nbits w with
    | .opreq lines _ =>
      if lines = 0b1000#4 then s.asRole .rx else if lines = 0b0100#4 then s.asRole .tx else s
    | .resetLine => s
    | .frame _ => s
    | .ctrlFlags _ => s
    | .evalEncode _ => s
    | .evalDecode _ => s
    | .pseudoCycle _ => s
    | .restoreRadio => s
  { selected with requests := tableWord nbits w :: selected.requests, byCycle := false }

end Sys2Proof.Machine
end

