-- ==== Sys2Proof/Machine/Trace.lean ====
section
/-! DEFINITION. What can be read off an event trace (spec/00_scope.md R12), and the conditions of
spec/60_exceptions.md R201, which no register records. -/

namespace Sys2Proof.Machine

open Sys2Proof

/-- The frame a call handed to `Radio.send`. -/
def Event.sentFrame : Event → Option FrameBytes
  | .radioSend bytes _ => some bytes
  | .radioTryReceive _ => none
  | .clockNow _ => none
  | .radioSetListening _ => none
  | .radioCarrierDetected _ => none
  | .battRead _ => none
  | .calRead _ _ => none
  | .actSetPulseWidth _ _ => none
  | .calEngineDeliver _ _ _ => none

/-- The frame a call put on the link: a failed send puts none there, and has the same consequences as a frame lost on the
air (R64, R206; U21). -/
def Event.launchedFrame : Event → Option FrameBytes
  | .radioSend bytes ok => if ok then some bytes else none
  | .radioTryReceive _ => none
  | .clockNow _ => none
  | .radioSetListening _ => none
  | .radioCarrierDetected _ => none
  | .battRead _ => none
  | .calRead _ _ => none
  | .actSetPulseWidth _ _ => none
  | .calEngineDeliver _ _ _ => none

/-- The frame `Radio.tryReceive` returned. -/
def Event.receivedFrame : Event → Option FrameBytes
  | .radioTryReceive result => result
  | .radioSend _ _ => none
  | .clockNow _ => none
  | .radioSetListening _ => none
  | .radioCarrierDetected _ => none
  | .battRead _ => none
  | .calRead _ _ => none
  | .actSetPulseWidth _ _ => none
  | .calEngineDeliver _ _ _ => none

/-- The call drives an actuator. -/
def Event.isActuator : Event → Bool
  | .actSetPulseWidth _ _ => true
  | .radioSend _ _ => false
  | .radioTryReceive _ => false
  | .clockNow _ => false
  | .radioSetListening _ => false
  | .radioCarrierDetected _ => false
  | .battRead _ => false
  | .calRead _ _ => false
  | .calEngineDeliver _ _ _ => false

/-- The sequence `S` of R68: the frames handed to `Radio.send`, in order. -/
def sentFrames (trace : List Event) : List FrameBytes := trace.filterMap Event.sentFrame

/-- The frames put on the link, in order: a part of `S` (R206). -/
def launchedFrames (trace : List Event) : List FrameBytes := trace.filterMap Event.launchedFrame

/-- The sequence `V` of R68: the frames `Radio.tryReceive` returned, in order. -/
def receivedFrames (trace : List Event) : List FrameBytes := trace.filterMap Event.receivedFrame

/-- The radio's mode after one call (R41). -/
def Event.modeAfter (mode : Bool) : Event → Bool
  | .radioSetListening on => on
  | .radioSend _ _ => mode
  | .radioTryReceive _ => mode
  | .clockNow _ => mode
  | .radioCarrierDetected _ => mode
  | .battRead _ => mode
  | .calRead _ _ => mode
  | .actSetPulseWidth _ _ => mode
  | .calEngineDeliver _ _ _ => mode

/-- The half-duplex rule for one call: `send` only in transmitting mode, `tryReceive` only in listening mode (R70). -/
def Event.fitsMode (mode : Bool) : Event → Bool
  | .radioSend _ _ => !mode
  | .radioTryReceive _ => mode
  | .radioSetListening _ => true
  | .clockNow _ => true
  | .radioCarrierDetected _ => true
  | .battRead _ => true
  | .calRead _ _ => true
  | .actSetPulseWidth _ _ => true
  | .calEngineDeliver _ _ _ => true

/-- The half-duplex rule for a run of calls that begins in this mode (R70). -/
def halfDuplex : Bool → List Event → Bool
  | _, [] => true
  | mode, e :: rest => e.fitsMode mode && halfDuplex (e.modeAfter mode) rest

/-- The conditions (R201). TransportLoss and RecoverableCorruption are raised in no step (R202, R205). -/
inductive Condition where
  | transportLoss
  | protocolMismatch
  | timingMiss
  | recoverableCorruption
  deriving DecidableEq, Repr

/-- A frame this endpoint does not expect: any type but Control at a receiver, `Unknown` or Control at a transmitter
(R203). -/
def unexpected (role : Role) (f : Frame) : Bool :=
  match role, f with
  | .rx, .control _ _ _ _ => false
  | .rx, .status _ _ _ => true
  | .rx, .calibGet _ _ => true
  | .rx, .calibSet _ _ => true
  | .rx, .unknown => true
  | .tx, .control _ _ _ _ => true
  | .tx, .status _ _ _ => false
  | .tx, .calibGet _ _ => false
  | .tx, .calibSet _ _ => false
  | .tx, .unknown => true

/-- The condition a poll answered like this meets (R203). -/
def pollCondition (ty : FrameTypes) (role : Role) (answer : Option FrameBytes) : Option Condition :=
  match answer with
  | none => none
  | some bytes => if unexpected role (decodeFrame ty bytes) then some .protocolMismatch else none

/-- The condition a LISTENSTEP meets in this state, at most one (R204, R208). -/
def State.listenCondition (s : State) : Option Condition :=
  if s.regs.listenExpired s.params s.world.nextClock then some .timingMiss
  else pollCondition s.params.types .tx s.world.callClock.nextReceived

/-- The condition an RXPOLL meets in this state, at most one (R203, R208). -/
def State.rxpollCondition (s : State) : Option Condition :=
  pollCondition s.params.types .rx s.world.callClock.nextReceived

end Sys2Proof.Machine
end

