-- ==== Sys2Proof/Machine/System.lean ====
section
/-! DEFINITION. The two-endpoint system (spec/60_exceptions.md R216) over the link of spec/20_memory.md R68 to R70: one
transmitter, one receiver, and in each direction the frames on the way, oldest first. A link may lose any of them and
never alters, reorders or duplicates one. The order of the endpoints' steps, and what the link does, are inputs
(log 16). -/

namespace Sys2Proof.Machine

open Sys2Proof

/-- The two endpoints and the two directions of the link. -/
structure System where
  /-- The endpoint with `ROLE = TX`. -/
  tx   : State
  /-- The endpoint with `ROLE = RX`. -/
  rx   : State
  /-- Frames put on the link by the transmitter and neither returned by the receiver's radio nor lost. -/
  toRx : List FrameBytes
  /-- Frames put on the link by the receiver and neither returned by the transmitter's radio nor lost. -/
  toTx : List FrameBytes
  deriving DecidableEq, Repr

/-- Both endpoints right after reset, each with its own clock and collaborators (`sourceOf`, R216), nothing on the way. -/
def System.reset : System where
  tx   := State.resetWith (Params.default .tx)
  rx   := State.resetWith (Params.default .rx)
  toRx := []
  toTx := []

/-- One of the endpoints. -/
inductive Endpoint where
  | tx
  | rx
  deriving DecidableEq, Repr

/-- What happens next in the system. -/
inductive SystemEvent where
  /-- An endpoint takes a step. If it polls its radio, it obtains the oldest frame on the way to it, or none when
  `deliver` is false or none is on the way. -/
  | stepOf (e : Endpoint) (i : Instr) (deliver : Bool)
  /-- The link towards an endpoint loses the frame at this place of the queue (R68). -/
  | loseTowards (e : Endpoint) (place : Nat)
  /-- An endpoint's host puts its radio into the resting mode of the role (R231, R233, log 5). -/
  | restoreRadioOf (e : Endpoint)
  deriving DecidableEq, Repr

/-- The steps of R28. -/
def Instr.isStep : Instr → Bool
  | .probe _ => true
  | .tick _ => true
  | .txcycle _ _ _ _ => true
  | .listenstep => true
  | .rxpoll => true
  | .reset => true
  | .frameUnknown => false
  | .frameUnassigned _ => false
  | .frameControl _ _ _ _ => false
  | .frameStatus _ _ _ => false
  | .frameCalibGet _ _ => false
  | .frameCalibSet _ _ => false
  | .reqNone _ => false
  | .reqStatus _ => false
  | .reqCalibGet _ => false
  | .reqCalibSet _ => false
  | .codecEncode _ => false
  | .codecDecode _ => false
  | .cycle _ _ _ _ => false

/-- What a radio has to hand over from the frames on the way to it. -/
def linkOffer (deliver : Bool) (incoming : List FrameBytes) : Option FrameBytes :=
  if deliver then incoming.head? else none

/-- The radio's answers replaced by this list; what it holds is in the system's queues. -/
def World.setReceived (answers : List (Option FrameBytes)) (w : World) : World :=
  { w with radioHeld := [], answers := { w.answers with received := answers } }

/-- The frames of `after` that are not yet in `before`, which is a beginning of it. -/
def newFrames (before after : List FrameBytes) : List FrameBytes := after.drop before.length

/-- One step of one endpoint. `incoming` are the frames on the way to it, `outgoing` those it put on the link; a
failed send puts none there (R206). The new values of the endpoint, of `incoming` and of `outgoing`. -/
def endpointStep (i : Instr) (deliver : Bool) (s : State) (incoming outgoing : List FrameBytes) :
    Host.Outcome (State × List FrameBytes × List FrameBytes) Fault Refusal :=
  if Instr.isStep i then
    match exec i (s.onWorld (World.setReceived [linkOffer deliver incoming])) with
    | .next t =>
      .next (t.onWorld (World.setReceived []),
        incoming.drop (newFrames (receivedFrames s.world.trace) (receivedFrames t.world.trace)).length,
        outgoing ++ newFrames (launchedFrames s.world.trace) (launchedFrames t.world.trace))
    | .fault r => .fault r
    | .refused r => .refused r
  else .refused .notAStep

/-- One event of the system. -/
def System.step (ev : SystemEvent) (y : System) : Host.Outcome System Fault Refusal :=
  match ev with
  | .stepOf .tx i deliver =>
    match endpointStep i deliver y.tx y.toTx y.toRx with
    | .next (t, toTx, toRx) => .next { y with tx := t, toTx := toTx, toRx := toRx }
    | .fault r => .fault r
    | .refused r => .refused r
  | .stepOf .rx i deliver =>
    match endpointStep i deliver y.rx y.toRx y.toTx with
    | .next (t, toRx, toTx) => .next { y with rx := t, toRx := toRx, toTx := toTx }
    | .fault r => .fault r
    | .refused r => .refused r
  | .loseTowards .tx place => .next { y with toTx := y.toTx.eraseIdx place }
  | .loseTowards .rx place => .next { y with toRx := y.toRx.eraseIdx place }
  | .restoreRadioOf .tx =>
    match y.tx.restoreRadio with
    | .next t => .next { y with tx := t }
    | .fault r => .fault r
    | .refused r => .refused r
  | .restoreRadioOf .rx =>
    match y.rx.restoreRadio with
    | .next t => .next { y with rx := t }
    | .fault r => .fault r
    | .refused r => .refused r

end Sys2Proof.Machine
end

