-- ==== Sys2Proof/Safety.lean ====
section
/-! DEFINITION. What holds along every run, in the terms the statements use: the invariant of the registers, the radio's
mode (spec/10_state.md R47), the link between two endpoints (spec/20_memory.md R68), and small words for what a step
leaves unchanged. -/

namespace Sys2Proof.Machine

open Sys2Proof

/-- The registers that only a transmitter writes hold their reset values (R20). -/
structure Regs.TxRegsAtReset (r : Regs) : Prop where
  phase      : r.lsPhase = .idle
  latency    : r.lsLastLatency = 0#32
  statusTime : r.lsLastStatusTime = 0#32
  decision   : r.lsReqDecision = .none
  start      : r.lsListenStart = 0#32
  good       : r.statGood = false
  rating     : r.statRating = 0#8
  batt       : r.statBatt = 0#32

/-- The invariant of an endpoint. -/
structure Inv (s : State) : Prop where
  /-- The parameters meet what R7 and R9 ask of them. -/
  params    : s.params.wf
  /-- The rating is 0 to twice `RATING_HALF`, which is 66 for the value of R7 (R24, R135). -/
  rating    : s.regs.sqRating.toNat ≤ 2 * s.params.ratingHalf
  /-- A receiver never leaves `IDLE` and never writes a transmitter's register (R20, R27). -/
  receiver  : s.params.role = .rx → s.regs.TxRegsAtReset
  /-- A listen window is open only for a request, and it began at the send (R155, R158). -/
  listening : s.regs.lsPhase = .listen → s.regs.lsReqDecision ≠ .none ∧ s.regs.lsListenStart = s.regs.lsLastTxTime
  /-- The latency of a reply is below the bound of the listen window (R158). -/
  latency   : s.regs.lsLastLatency = 0#32 ∨ s.regs.lsLastLatency.toNat < s.params.listenDurationMs

/-- The radio is in the mode the block has commanded: a transmitter's radio listens exactly while `ls_phase = LISTEN`, a
receiver's radio listens between steps (R47). -/
def RadioInv (s : State) : Prop :=
  s.world.radioListening = decide (s.params.role = .rx ∨ s.regs.lsPhase = .listen)

/-- What no operation of the block writes but ENCODE and DECODE evaluated directly, and `step`: the parameters, the
host's further entries, the result handed back, and how the transmit cycle was begun. -/
def sameSetting (s t : State) : Prop :=
  t.params = s.params ∧ t.requests = s.requests ∧ t.codecOut = s.codecOut ∧ t.byCycle = s.byCycle

/-- The poll of this step used up the answer it obtained: a frame is removed from the radio and never returned twice
(R41, R64). -/
def usesUpPoll (s t : State) : Prop :=
  t.world.radioHeld = s.world.radioHeld.tail ∧
  t.world.answers.received =
    if s.world.radioHeld.isEmpty then s.world.answers.received.tail else s.world.answers.received

/-- The radio was not polled: what it holds and its further answers are as before. -/
def leavesRadioFrames (s t : State) : Prop :=
  t.world.radioHeld = s.world.radioHeld ∧ t.world.answers.received = s.world.answers.received

/-- The calls a step added to the trace. -/
def addsCalls (s t : State) (calls : List Event) : Prop := t.world.trace = s.world.trace ++ calls

/-- The carrier-detect call of FINISH, made only if the radio has carrier sense (R162). -/
def finishCalls (p : Params) (cd : Bool) : List Event := if p.hasCarrierSense then [.radioCarrierDetected cd] else []

/-- The registers after FINISH with the carrier-detect sample `cd` and the clock sample `t` (R162). -/
def finishRegs (p : Params) (cd : Bool) (t : Time) (r : Regs) : Regs :=
  (if p.hasCarrierSense then r.probe cd else r).tick p t

/-- The calls of one reply of the receiver, `read` the call on the battery reader or the calibration holder (R188). -/
def replyCalls (ty : FrameTypes) (read : Event) (f : Frame) (ok : Bool) : List Event :=
  [.radioSetListening false, read, .radioSend (encodeFrame ty f) ok, .radioSetListening true]

/-- The eight actuator calls of a Control frame (R191). -/
def actuatorCalls (p : Params) (pri : Primary) (aux : Auxiliary) : List Event :=
  (actuatorCommands p pri aux).map fun c => .actSetPulseWidth c.1 c.2

/-- The held status registers and every timing register, the request decision included, keep their values; the phase and
the estimator may change. -/
structure KeepsLink (r u : Regs) : Prop where
  txTime     : u.lsLastTxTime = r.lsLastTxTime
  rxTime     : u.lsLastRxTime = r.lsLastRxTime
  latency    : u.lsLastLatency = r.lsLastLatency
  statusTime : u.lsLastStatusTime = r.lsLastStatusTime
  decision   : u.lsReqDecision = r.lsReqDecision
  start      : u.lsListenStart = r.lsListenStart
  good       : u.statGood = r.statGood
  rating     : u.statRating = r.statRating
  batt       : u.statBatt = r.statBatt

/-- The held status registers and the time of the last Status frame keep their values (R35, R160). -/
structure KeepsStatus (r u : Regs) : Prop where
  statusTime : u.lsLastStatusTime = r.lsLastStatusTime
  good       : u.statGood = r.statGood
  rating     : u.statRating = r.statRating
  batt       : u.statBatt = r.statBatt

/-- `n` LISTENSTEPs one after another, each taken while `ls_phase = LISTEN` (R103, R156). -/
inductive ListenSteps : Nat → State → State → Prop where
  | done (s : State) : ListenSteps 0 s s
  | more {n : Nat} {s u t : State} (listening : s.regs.lsPhase = .listen) (one : exec .listenstep s = .next u)
      (rest : ListenSteps n u t) : ListenSteps (n + 1) s t

/-- Byte 0 of a frame is the type value `v`, which is `n` under the type values of R81. -/
def typeIs (ty : FrameTypes) (B : FrameBytes) (v : Byte) (n : Nat) : Prop :=
  byteAt B 0 = v ∧ (ty = FrameTypes.default → (byteAt B 0).toNat = n)

/-- The same as a premise: byte 0 is the type value `v`, or, under the type values of R81, the number `n`. -/
def hasType (ty : FrameTypes) (B : FrameBytes) (v : Byte) (n : Nat) : Prop :=
  byteAt B 0 = v ∨ (ty = FrameTypes.default ∧ (byteAt B 0).toNat = n)

/-- A 16-bit field of a frame as a number: the byte at the lower offset counts once, the next one 256 times (R11). -/
def le16 (B : FrameBytes) (off : Nat) : Nat := (byteAt B off).toNat + 256 * (byteAt B (off + 1)).toNat

/-- The 32-bit field of a frame as a number (R11, R92). -/
def le32 (B : FrameBytes) (off : Nat) : Nat := le16 B off + 65536 * le16 B (off + 2)

/-- The six calibration values of a frame stand at the offsets 2 to 13 (R91). -/
def calValsAt (B : FrameBytes) (val : CalVals) : Prop :=
  le16 B 2 = val.rawMin.toNat ∧ le16 B 4 = val.rawCenter.toNat ∧ le16 B 6 = val.rawMax.toNat ∧
  le16 B 8 = val.outMin.toNat ∧ le16 B 10 = val.outCenter.toNat ∧ le16 B 12 = val.outMax.toNat

/-- The channel values of a Control frame stand at the offsets 2 to 14 (R85). -/
def channelsAt (B : FrameBytes) (pri : Primary) (aux : Auxiliary) : Prop :=
  le16 B 2 = pri.throttle.toNat ∧ le16 B 4 = pri.rudder.toNat ∧ le16 B 6 = pri.elevator.toNat ∧
  le16 B 8 = pri.aileron.toNat ∧ le16 B 10 = pri.channel5.toNat ∧
  byteAt B 12 = aux.aux0 ∧ byteAt B 13 = aux.aux1 ∧ byteAt B 14 = aux.aux2

/-- The number of a request code (R88). -/
def reqNumber : Req → Nat
  | .none => 0
  | .status => 1
  | .calibGet => 2
  | .calibSet => 3

/-- What the radio holds after a frame was left with it: as before, or with the frame behind the others (R70; U12). -/
def leftWithRadio (B : FrameBytes) (before after : List FrameBytes) : Prop :=
  after = before ∨ after = before ++ [B]

/-- A frame has joined what the radio holds, or was lost; nothing else has changed but the count of such frames (R70;
U12). -/
def frameJoins (B : FrameBytes) (s u : State) : Prop :=
  u.regs = s.regs ∧ sameSetting s u ∧ u.world.trace = s.world.trace ∧
  u.world.radioListening = s.world.radioListening ∧ u.world.answers = s.world.answers ∧
  leftWithRadio B s.world.radioHeld u.world.radioHeld

/-- The link between the endpoints: the frames an endpoint obtained, followed by those on the way to it, are a
subsequence of the frames the other one put on the link (R68, R206). -/
structure LinkInv (y : System) : Prop where
  towardsRx : (receivedFrames y.rx.world.trace ++ y.toRx).Sublist (launchedFrames y.tx.world.trace)
  towardsTx : (receivedFrames y.tx.world.trace ++ y.toTx).Sublist (launchedFrames y.rx.world.trace)

end Sys2Proof.Machine
end

