-- ==== Sys2Proof/Certificates/Slice0/Obligations.lean ====
section
/-! DEFINITION. The statements about the link block, each of them one claim of the spec's numbered rules or a
consequence of several. `clk` is always the step's one clock sample (spec/10_state.md R42). -/

open Sys2Proof Sys2Proof.Machine

/-! ## PacketCodec. `ty` are the type values of the instance, parameters by U2 of spec/93_implementation_defined.md;
`typeIs` and `hasType` say the numbers of R81 as well. -/

/-- R111: the sixteen bytes of an encoded Control frame. -/
def Obligations.ControlFrameLayout : Prop :=
  ∀ (ty : FrameTypes) (request : Req) (sel : Sel3) (pri : Primary) (aux : Auxiliary) (B : FrameBytes),
    B = encodeFrame ty (.control request sel pri aux) →
    typeIs ty B ty.control 1 ∧ (byteAt B 1).toNat = reqNumber request + 4 * sel.toNat ∧ channelsAt B pri aux ∧
    byteAt B 15 = 0#8

/-- R112: the sixteen bytes of an encoded Status frame. -/
def Obligations.StatusFrameLayout : Prop :=
  ∀ (ty : FrameTypes) (good : Bool) (rating : Byte) (batt : BattBits) (B : FrameBytes),
    B = encodeFrame ty (.status good rating batt) →
    typeIs ty B ty.status 2 ∧ (byteAt B 1).toNat = (if good then 1 else 0) ∧ byteAt B 2 = rating ∧
    le32 B 3 = batt.toNat ∧ ∀ k, 7 ≤ k → k ≤ 15 → byteAt B k = 0#8

/-- R114 and R115: the sixteen bytes of an encoded calibration frame; the two types differ in byte 0 only. -/
def Obligations.CalibrationFrameLayout : Prop :=
  ∀ (ty : FrameTypes) (sel : Byte) (val : CalVals) (G S : FrameBytes),
    G = encodeFrame ty (.calibGet sel val) → S = encodeFrame ty (.calibSet sel val) →
    (typeIs ty G ty.calibGet 3 ∧ byteAt G 1 = sel ∧ calValsAt G val ∧ byteAt G 14 = 0#8 ∧ byteAt G 15 = 0#8) ∧
    (typeIs ty S ty.calibSet 4 ∧ byteAt S 1 = sel ∧ calValsAt S val ∧ byteAt S 14 = 0#8 ∧ byteAt S 15 = 0#8)

/-- R116: `Unknown` encodes to its type byte, 0 by R81, and fifteen zero bytes. -/
def Obligations.UnknownFrameIsZero : Prop :=
  ∀ ty : FrameTypes, typeIs ty (encodeFrame ty .unknown) ty.unknown 0 ∧
    ∀ k, 1 ≤ k → k ≤ 15 → byteAt (encodeFrame ty .unknown) k = 0#8

/-- R118: byte 0 alone selects the variant; every type value without a layout gives `Unknown`, by R81 these are 0 and 5 to
255. -/
def Obligations.TypeByteSelectsVariant : Prop :=
  ∀ (ty : FrameTypes) (B : FrameBytes), ty.wf →
    ((∃ request sel pri aux, decodeFrame ty B = .control request sel pri aux) ↔ byteAt B 0 = ty.control) ∧
    ((∃ good rating batt, decodeFrame ty B = .status good rating batt) ↔ byteAt B 0 = ty.status) ∧
    ((∃ sel val, decodeFrame ty B = .calibGet sel val) ↔ byteAt B 0 = ty.calibGet) ∧
    ((∃ sel val, decodeFrame ty B = .calibSet sel val) ↔ byteAt B 0 = ty.calibSet) ∧
    (decodeFrame ty B = .unknown ↔ ty.noLayout (byteAt B 0)) ∧
    (ty = FrameTypes.default →
      (byteAt B 0 = ty.control ↔ (byteAt B 0).toNat = 1) ∧ (byteAt B 0 = ty.status ↔ (byteAt B 0).toNat = 2) ∧
      (byteAt B 0 = ty.calibGet ↔ (byteAt B 0).toNat = 3) ∧ (byteAt B 0 = ty.calibSet ↔ (byteAt B 0).toNat = 4) ∧
      (decodeFrame ty B = .unknown ↔ (byteAt B 0).toNat = 0 ∨ 5 ≤ (byteAt B 0).toNat))

/-- R119: the fields of a decoded Control frame. -/
def Obligations.ControlFrameDecoding : Prop :=
  ∀ (ty : FrameTypes) (B : FrameBytes), hasType ty B ty.control 1 →
    ∃ request sel pri aux, decodeFrame ty B = .control request sel pri aux ∧
      reqNumber request = (byteAt B 1).toNat % 4 ∧ sel.toNat = (byteAt B 1).toNat / 4 % 8 ∧ channelsAt B pri aux

/-- R120, R121, R122: the fields of a decoded Status frame and of the decoded calibration frames. -/
def Obligations.StatusAndCalibrationDecoding : Prop :=
  ∀ (ty : FrameTypes) (B : FrameBytes), ty.wf →
    (hasType ty B ty.status 2 → ∃ good rating batt, decodeFrame ty B = .status good rating batt ∧
      (good = true ↔ (byteAt B 1).toNat % 2 = 1) ∧ rating = byteAt B 2 ∧ batt.toNat = le32 B 3) ∧
    (hasType ty B ty.calibGet 3 → ∃ val, decodeFrame ty B = .calibGet (byteAt B 1) val ∧ calValsAt B val) ∧
    (hasType ty B ty.calibSet 4 → ∃ val, decodeFrame ty B = .calibSet (byteAt B 1) val ∧ calValsAt B val)

/-- Every frame decodes from its encoding, every field at every value, whatever the type values (R123, derived there
from R111 to R122). -/
def Obligations.FrameRoundTrip : Prop :=
  ∀ (ty : FrameTypes) (f : Frame), ty.wf → decodeFrame ty (encodeFrame ty f) = f

/-- The other direction holds exactly when every padding byte and reserved bit is 0 and, for a frame that decodes to
`Unknown`, byte 0 is the type of `Unknown` and every other byte 0 (R124, derived there). -/
def Obligations.EncodeAfterDecodeOnCanonicalBytesOnly : Prop :=
  ∀ (ty : FrameTypes) (B : FrameBytes), ty.wf →
    (encodeFrame ty (decodeFrame ty B) = B ↔
      (byteAt B 0 = ty.control → (byteAt B 1).toNat < 32 ∧ byteAt B 15 = 0#8) ∧
      (byteAt B 0 = ty.status → (byteAt B 1).toNat < 2 ∧ ∀ k, 7 ≤ k → k ≤ 15 → byteAt B k = 0#8) ∧
      (byteAt B 0 = ty.calibGet ∨ byteAt B 0 = ty.calibSet → byteAt B 14 = 0#8 ∧ byteAt B 15 = 0#8) ∧
      (ty.noLayout (byteAt B 0) → byteAt B 0 = ty.unknown ∧ ∀ k, 1 ≤ k → k ≤ 15 → byteAt B k = 0#8))

/-- R84: ENCODE writes every padding byte and reserved bit as 0, and DECODE ignores them: frames that agree in the type
and in the declared fields of that type decode to the same frame. -/
def Obligations.PaddingAndReservedBitsIgnored : Prop :=
  ∀ ty : FrameTypes, ty.wf →
  (∀ (f : Frame) (B : FrameBytes), B = encodeFrame ty f → match f with
    | .control _ _ _ _ => (byteAt B 1).toNat < 32 ∧ byteAt B 15 = 0#8
    | .status _ _ _ => (byteAt B 1).toNat < 2 ∧ ∀ k, 7 ≤ k → k ≤ 15 → byteAt B k = 0#8
    | .calibGet _ _ => byteAt B 14 = 0#8 ∧ byteAt B 15 = 0#8
    | .calibSet _ _ => byteAt B 14 = 0#8 ∧ byteAt B 15 = 0#8
    | .unknown => ∀ k, 1 ≤ k → k ≤ 15 → byteAt B k = 0#8) ∧
  ∀ B B' : FrameBytes, byteAt B 0 = byteAt B' 0 →
    (byteAt B 0 = ty.control →
      (byteAt B 1).toNat % 32 = (byteAt B' 1).toNat % 32 ∧ ∀ k, 2 ≤ k → k ≤ 14 → byteAt B k = byteAt B' k) →
    (byteAt B 0 = ty.status →
      (byteAt B 1).toNat % 2 = (byteAt B' 1).toNat % 2 ∧ ∀ k, 2 ≤ k → k ≤ 6 → byteAt B k = byteAt B' k) →
    (byteAt B 0 = ty.calibGet ∨ byteAt B 0 = ty.calibSet → ∀ k, 1 ≤ k → k ≤ 13 → byteAt B k = byteAt B' k) →
    decodeFrame ty B = decodeFrame ty B'

/-- R11: what a read of 1, 2 or 4 bytes gives, and what a write of them leaves in every byte. -/
def Obligations.FrameBufferReadsAndWrites : Prop :=
  ∀ (B : FrameBytes) (off : Nat),
    (off + 1 ≤ 16 → ∀ v : BitVec 8, byteAt (memWrite1 off v B) off = v ∧
      ∀ k, k ≤ 15 → k ≠ off → byteAt (memWrite1 off v B) k = byteAt B k) ∧
    (off + 2 ≤ 16 → (memRead2 B off).toNat = le16 B off ∧ ∀ v : BitVec 16,
      (∀ k, k < 2 → byteAt (memWrite2 off v B) (off + k) = v.extractLsb' (8 * k) 8) ∧
      ∀ k, k ≤ 15 → k < off ∨ off + 2 ≤ k → byteAt (memWrite2 off v B) k = byteAt B k) ∧
    (off + 4 ≤ 16 → (memRead4 B off).toNat = le32 B off ∧ ∀ v : BitVec 32,
      (∀ k, k < 4 → byteAt (memWrite4 off v B) (off + k) = v.extractLsb' (8 * k) 8) ∧
      ∀ k, k ≤ 15 → k < off ∨ off + 4 ≤ k → byteAt (memWrite4 off v B) k = byteAt B k)

/-! ## What stands on the inputs -/

/-- What `encode` writes for a well-formed instruction, `decode` reads back, every operand at every value. The rows
without an encoding in the spec are presented as log 9, log 10 and log 11 say. -/
def Obligations.PresentedInstructionRoundTrip : Prop :=
  ∀ (ty : FrameTypes) (i : Instr), ty.wf → i.wf ty = true → decode ty (encode ty i) = .ok i

/-- Words written out from the tables of spec/30_encoding.md decode to the instructions they stand for, under the type
values of R81. That the operands of a bare request word are zero, so that the word of PROBE reads as `cd` = 0, is the
model's choice (log 11): R98 puts them on inputs of their own. -/
def Obligations.WrittenOutWordsDecode : Prop :=
  decodeBytes FrameTypes.default .frame [1, 1, 0xDC, 5, 0xDC, 5, 0xE8, 3, 0xDC, 5, 0xD0, 7, 0, 0xFF, 0x80, 0] =
    .ok (.frameControl .status 0 ⟨1500, 1500, 1000, 1500, 2000⟩ ⟨0, 255, 128⟩) ∧
  decodeBytes FrameTypes.default .frame [2, 1, 0x3E, 0xCD, 0xCC, 0xEC, 0x40, 0, 0, 0, 0, 0, 0, 0, 0, 0] =
    .ok (.frameStatus true 62 0x40ECCCCD) ∧
  decodeBytes FrameTypes.default .ctrlFlags [0b00010111] = .ok (.reqCalibSet 5) ∧
  decodeBytes FrameTypes.default .opreq [0b0001] = .ok (.probe false) ∧
  decodeBytes FrameTypes.default .opreq [0b1000] = .ok .rxpoll

/-- R100: several request lines at once are not an operation and are refused (how they stand on the inputs is the
model's, log 6; a host that waits asserts none, R103). -/
def Obligations.SeveralRequestLinesRefused : Prop :=
  ∀ (s : State) (lines : BitVec 4) (inputs : OperandInputs),
    lines.toNat ∉ [0, 1, 2, 4, 8] → s.presented = .opreq lines inputs → ¬ s.hostWaits →
    step s = .refused (.undecodable (.severalLines lines))

/-- What stands on the inputs and decodes to an instruction is what the step executes, after using up the host's entry,
unless the host waits for its CYCLE (`HostWaitsForTheCycle`); with nothing lined up no request is asserted (the entries
are the model's, log 6). -/
def Obligations.StepRunsDecodedInstruction : Prop :=
  ∀ s : State,
    (∀ i, ¬ s.hostWaits → decode s.params.types s.presented = .ok i →
      step s = exec i { s with requests := s.requests.tail }) ∧
    (∀ p rest, s.requests = p :: rest → s.presented = p) ∧
    (s.requests = [] → s.presented = .opreq 0#4 OperandInputs.zero ∧ step s = exec .listenstep s)

/-- While the transmit cycle that a CYCLE began is in its listen window, the host is blocked: an entry that is an act of
its own waits, the block takes its own LISTENSTEP, and the entry stays lined up; in `IDLE` the entry is executed (R103,
R240; the list of entries and the field that remembers the CYCLE are the model's, log 6, log 10). -/
def Obligations.HostWaitsForTheCycle : Prop :=
  ∀ (s : State) (p : Presented) (rest : List Presented), s.requests = p :: rest →
    ((∃ lines inputs, p = .opreq lines inputs ∧ lines ≠ 0#4) ∨ (∃ inputs, p = .pseudoCycle inputs) ∨
      (∃ f, p = .evalEncode f) ∨ (∃ B, p = .evalDecode B) ∨ p = .restoreRadio) →
    (s.params.role = .tx → s.regs.lsPhase = .listen → s.byCycle = true →
      ∃ t, step s = .next t ∧ exec .listenstep s = .next t ∧ t.requests = p :: rest ∧ t.byCycle = true) ∧
    (s.regs.lsPhase = .idle → ∀ i, decode s.params.types p = .ok i →
      step s = exec i { s with requests := rest })

/-- R101: PROBE and TICK in `LISTEN`, TXCYCLE at a receiver or in `LISTEN`, RXPOLL at a transmitter or in `LISTEN`: the
answer is a refusal, in which no state comes back. -/
def Obligations.OperationNotEnabledIsRefused : Prop :=
  ∀ s : State,
    (s.regs.lsPhase = .listen → ∀ cd now,
      exec (.probe cd) s = .refused .notEnabled ∧ exec (.tick now) s = .refused .notEnabled) ∧
    (s.params.role = .rx ∨ s.regs.lsPhase = .listen → ∀ pri aux kind sel,
      exec (.txcycle pri aux kind sel) s = .refused .notEnabled) ∧
    (s.params.role = .tx ∨ s.regs.lsPhase = .listen → exec .rxpoll s = .refused .notEnabled)

/-! ## SignalQualityEstimator -/

/-- R131 and R132: a probe adds one to exactly one counter, which stays at 65535, and changes nothing else. -/
def Obligations.ProbeCountsOneSample : Prop :=
  ∀ s : State, s.regs.lsPhase = .idle →
    exec (.probe true) s = .next { s with
      regs := { s.regs with sqGood := BitVec.ofNat 16 (min (s.regs.sqGood.toNat + 1) 65535) } } ∧
    exec (.probe false) s = .next { s with
      regs := { s.regs with sqWeak := BitVec.ofNat 16 (min (s.regs.sqWeak.toNat + 1) 65535) } }

/-- R133, R134, R136: a TICK of an elapsed window computes rating and majority from the counts, clears the counters and
starts the new window at `now`, and nothing else changes; a TICK before that changes nothing. `RATING_HALF`, the 33 of
R133, is a parameter (U9); the largest rating fits its 8 bits (log 18). The target sample count is at least 1, as its
division asks (U9). -/
def Obligations.TickClosesWindowOrChangesNothing : Prop :=
  ∀ (s : State) (now : Time) (good weak half : Nat), s.regs.lsPhase = .idle → 0 < s.params.tSamples →
    half = s.params.ratingHalf → 2 * half ≤ 255 → good = s.regs.sqGood.toNat → weak = s.regs.sqWeak.toNat →
    ((now - s.regs.sqWinStart).toNat < s.params.wMs → exec (.tick now) s = .next s) ∧
    (s.params.wMs ≤ (now - s.regs.sqWinStart).toNat → ∃ rating majority,
      exec (.tick now) s = .next { s with
        regs := { s.regs with sqGood := 0#16, sqWeak := 0#16, sqWinStart := now, sqRating := rating,
                              sqGoodMajority := majority } } ∧
      (good + weak = 0 → rating = 0#8 ∧ majority = false) ∧
      (0 < good + weak →
        rating.toNat = min (half * (good + weak) / s.params.tSamples) half + half * good / (good + weak) ∧
        (majority = true ↔ weak < good)))

/-- The components of the rating and its range (R135, derived there): for every `RATING_HALF`, and with the numbers of
R135 for the values of R7. -/
def Obligations.RatingComponentsAndRange : Prop :=
  ∀ (p : Params) (good weak n half : Nat), n = good + weak → half = p.ratingHalf → 2 * half ≤ 255 →
    (windowRating p good weak).toNat ≤ 2 * half ∧ density p n ≤ half ∧ (0 < n → quality p good n ≤ half) ∧
    (0 < n → (windowRating p good weak).toNat = density p n + quality p good n ∧
      (0 < half → (quality p good n = half ↔ weak = 0)) ∧ (quality p good n = 0 ↔ half * good < n)) ∧
    (half = 33 → (windowRating p good weak).toNat ≤ 66) ∧
    (half = 33 → p.tSamples = 200 →
      (density p n = 0 ↔ n ≤ 6) ∧ (density p n = 1 ↔ 7 ≤ n ∧ n ≤ 12) ∧ (density p n = 33 ↔ 200 ≤ n))

/-! ## LinkSession, transmitter -/

/-- R150, R151, R152, R154, R155: a TXCYCLE samples the clock, decides the request by the strict comparison, sends
exactly one Control frame with the channel values unchanged, and either opens the listen window or finishes. The radio is
in transmitting mode, as R233 asks (`RadioOutOfModeIsRefusedUntilRestored` says what holds otherwise). -/
def Obligations.TxcycleSendsAndOpensOrFinishes : Prop :=
  ∀ (s : State) (pri : Primary) (aux : Auxiliary) (kind : CalKind) (calSel : Sel3) (clk : Time),
    s.params.role = .tx → s.regs.lsPhase = .idle → s.world.radioListening = false → clk = s.world.nextClock →
    ∃ t ok, exec (.txcycle pri aux kind calSel) s = .next t ∧ sameSetting { s with byCycle := false } t ∧
      leavesRadioFrames s t ∧
      ((s.params.fetchIntervalMs < (clk - s.regs.lsLastStatusTime).toNat ∧
        ∃ request sel,
          (kind = .noCal → request = .status ∧ sel = 0#3) ∧ (kind = .get → request = .calibGet ∧ sel = calSel) ∧
          (kind = .set → request = .calibSet ∧ sel = calSel) ∧
          t.regs = { s.regs with lsReqDecision := request, lsLastTxTime := clk, lsListenStart := clk,
                                 lsPhase := .listen } ∧
          addsCalls s t [.clockNow clk, .radioSend (encodeFrame s.params.types (.control request sel pri aux)) ok,
            .radioSetListening true] ∧
          t.world.radioListening = true) ∨
       ((clk - s.regs.lsLastStatusTime).toNat ≤ s.params.fetchIntervalMs ∧
        ∃ cd,
          t.regs = finishRegs s.params cd clk { s.regs with lsReqDecision := .none, lsLastTxTime := clk } ∧
          addsCalls s t
            ([.clockNow clk, .radioSend (encodeFrame s.params.types (.control .none 0#3 pri aux)) ok] ++
              finishCalls s.params cd) ∧
          t.world.radioListening = false))

/-- R162: FINISH probes once if there is carrier sense and then ticks; without carrier sense it only ticks. It writes no
register but the estimator's. -/
def Obligations.FinishProbesThenTicks : Prop :=
  ∀ (s : State) (t : Time),
    (s.params.hasCarrierSense = true → ∃ cd,
      (s.finish t).regs = (s.regs.probe cd).tick s.params t ∧
      addsCalls s (s.finish t) [.radioCarrierDetected cd]) ∧
    (s.params.hasCarrierSense = false → s.finish t = { s with regs := s.regs.tick s.params t }) ∧
    KeepsLink s.regs (s.finish t).regs ∧ (s.finish t).regs.lsPhase = s.regs.lsPhase

/-- R157: an expired window ends without a poll, and the last-known values stay. -/
def Obligations.ExpiredWindowEndsWithoutPolling : Prop :=
  ∀ (s : State) (clk : Time), s.params.role = .tx → s.regs.lsPhase = .listen → clk = s.world.nextClock →
    s.params.listenDurationMs ≤ (clk - s.regs.lsListenStart).toNat →
    ∃ t cd, exec .listenstep s = .next t ∧ sameSetting s t ∧
      t.regs = { finishRegs s.params cd clk s.regs with lsPhase := .idle } ∧ KeepsLink s.regs t.regs ∧
      addsCalls s t ([.clockNow clk, .radioSetListening false] ++ finishCalls s.params cd) ∧
      t.world.radioListening = false ∧ leavesRadioFrames s t

/-- A poll that finds no frame changes no register, and the window stays open (R156 lines 7 to 9). -/
def Obligations.PollWithoutFrameKeepsListening : Prop :=
  ∀ (s : State) (clk : Time), s.params.role = .tx → s.regs.lsPhase = .listen → clk = s.world.nextClock →
    (clk - s.regs.lsListenStart).toNat < s.params.listenDurationMs → s.world.callClock.nextReceived = none →
    ∃ t, exec .listenstep s = .next t ∧ sameSetting s t ∧ t.regs = s.regs ∧
      addsCalls s t [.clockNow clk, .radioTryReceive none] ∧
      t.world.radioListening = s.world.radioListening ∧ usesUpPoll s t

/-- R158, R159, R160: a Status frame obtained in the window is held as received, with the times, and ends the window. -/
def Obligations.StatusReplyIsHeld : Prop :=
  ∀ (s : State) (clk : Time) (B : FrameBytes) (good : Bool) (rating : Byte) (batt : BattBits),
    s.params.role = .tx → s.regs.lsPhase = .listen → clk = s.world.nextClock →
    (clk - s.regs.lsListenStart).toNat < s.params.listenDurationMs →
    s.world.callClock.nextReceived = some B → decodeFrame s.params.types B = .status good rating batt →
    ∃ t cd, exec .listenstep s = .next t ∧ sameSetting s t ∧
      t.regs = { finishRegs s.params cd clk { s.regs with
          lsLastRxTime := clk, lsLastLatency := clk - s.regs.lsLastTxTime, statGood := good, statRating := rating,
          statBatt := batt, lsLastStatusTime := clk } with lsPhase := .idle } ∧
      addsCalls s t ([.clockNow clk, .radioTryReceive (some B), .radioSetListening false] ++
        finishCalls s.params cd) ∧
      t.world.radioListening = false ∧ usesUpPoll s t

/-- R161: a calibration frame is handed on as received, a Control or `Unknown` frame is discarded; either way the times
are written, the held status registers are not, and the window ends. -/
def Obligations.OtherRepliesAreHandedOnOrDiscarded : Prop :=
  ∀ (s : State) (clk : Time) (B : FrameBytes), s.params.role = .tx → s.regs.lsPhase = .listen →
    clk = s.world.nextClock → (clk - s.regs.lsListenStart).toNat < s.params.listenDurationMs →
    s.world.callClock.nextReceived = some B →
    (∀ good rating batt, decodeFrame s.params.types B ≠ .status good rating batt) →
    ∃ t cd delivered, exec .listenstep s = .next t ∧ sameSetting s t ∧
      t.regs = { finishRegs s.params cd clk { s.regs with
          lsLastRxTime := clk, lsLastLatency := clk - s.regs.lsLastTxTime } with lsPhase := .idle } ∧
      addsCalls s t ([.clockNow clk, .radioTryReceive (some B)] ++ delivered ++ [.radioSetListening false] ++
        finishCalls s.params cd) ∧
      (∀ sel val, decodeFrame s.params.types B = .calibGet sel val →
        delivered = [.calEngineDeliver .calibGet sel val]) ∧
      (∀ sel val, decodeFrame s.params.types B = .calibSet sel val →
        delivered = [.calEngineDeliver .calibSet sel val]) ∧
      (∀ request sel pri aux, decodeFrame s.params.types B = .control request sel pri aux → delivered = []) ∧
      (decodeFrame s.params.types B = .unknown → delivered = []) ∧
      t.world.radioListening = false ∧ usesUpPoll s t

/-- After a LISTENSTEP that obtained a frame, the latency is below the bound of the window (R158; the premise is the
invariant that the window began at the send). -/
def Obligations.LatencyBelowListenDuration : Prop :=
  ∀ (s : State) (B : FrameBytes), Inv s → s.params.role = .tx → s.regs.lsPhase = .listen →
    (s.world.nextClock - s.regs.lsListenStart).toNat < s.params.listenDurationMs →
    s.world.callClock.nextReceived = some B →
    ∃ t, exec .listenstep s = .next t ∧ t.regs.lsLastLatency.toNat < s.params.listenDurationMs

/-- With no request asserted, a block in `IDLE` does nothing (R98, its last row): the step uses up the entry and changes
nothing else. That the instruction LISTENSTEP itself completes in `IDLE`, where R28 does not enable the step, is the
model's reading of that row (log 19, DEDUCED). -/
def Obligations.NoRequestInIdleDoesNothing : Prop :=
  ∀ s : State, s.regs.lsPhase = .idle →
    (∀ inputs, s.presented = .opreq 0#4 inputs → step s = .next { s with requests := s.requests.tail }) ∧
    exec .listenstep s = .next s

/-- CYCLE is one TXCYCLE followed by LISTENSTEPs, and it stops in `IDLE`, or where no clock sample is lined up and the
host stays blocked (log 10, `HostWaitsForTheCycle`); where TXCYCLE is not enabled it is refused (R103). -/
def Obligations.CycleIsTxcycleThenListensteps : Prop :=
  ∀ (s : State) (pri : Primary) (aux : Auxiliary) (kind : CalKind) (calSel : Sel3),
    (s.params.role = .tx → s.regs.lsPhase = .idle → s.world.radioListening = false →
      ∃ u t n, exec (.txcycle pri aux kind calSel) s = .next u ∧ exec (.cycle pri aux kind calSel) s = .next t ∧
        ListenSteps n { u with byCycle := true } t ∧ t.byCycle = true ∧
        (t.regs.lsPhase = .idle ∨ t.world.answers.clock = [])) ∧
    (s.params.role = .rx ∨ s.regs.lsPhase = .listen →
      exec (.cycle pri aux kind calSel) s = .refused .notEnabled)

/-- A cycle ends once a clock sample reaches the end of the listen window (R164, R243: the bound is one in time). -/
def Obligations.CycleEndsOnceTheClockPassesTheBound : Prop :=
  ∀ (s : State) (pri : Primary) (aux : Auxiliary) (kind : CalKind) (calSel : Sel3) (clk : Time) (rest : List Time),
    s.params.role = .tx → s.regs.lsPhase = .idle → s.world.radioListening = false →
    s.world.answers.clock = clk :: rest →
    (∃ c ∈ rest, s.params.listenDurationMs ≤ (c - clk).toNat) →
    ∃ t, exec (.cycle pri aux kind calSel) s = .next t ∧ t.regs.lsPhase = .idle

/-! ## LinkSession, receiver. The radio is in listening mode, as R233 asks; `RadioOutOfModeIsRefusedUntilRestored` says
what holds otherwise. -/

/-- R193: a poll that finds no frame samples the clock, polls, and ticks. -/
def Obligations.PollWithoutFrameOnlyTicks : Prop :=
  ∀ (s : State) (clk : Time), s.params.role = .rx → s.regs.lsPhase = .idle → s.world.radioListening = true →
    clk = s.world.nextClock →
    s.world.callClock.nextReceived = none →
    ∃ t, exec .rxpoll s = .next t ∧ sameSetting s t ∧ t.regs = s.regs.tick s.params clk ∧
      KeepsLink s.regs t.regs ∧ addsCalls s t [.clockNow clk, .radioTryReceive none] ∧
      t.world.radioListening = true ∧ usesUpPoll s t

/-- R181, R182, R184: a frame that is not Control sets the receive time and is probed, and nothing else comes of it but
the step's TICK. -/
def Obligations.PollIgnoresAllButControl : Prop :=
  ∀ (s : State) (clk : Time) (B : FrameBytes), s.params.role = .rx → s.regs.lsPhase = .idle →
    s.world.radioListening = true → clk = s.world.nextClock → s.world.callClock.nextReceived = some B →
    byteAt B 0 ≠ s.params.types.control →
    ∃ t cd, exec .rxpoll s = .next t ∧ sameSetting s t ∧
      t.regs = (Regs.probe cd { s.regs with lsLastRxTime := clk }).tick s.params clk ∧
      addsCalls s t [.clockNow clk, .radioTryReceive (some B), .radioCarrierDetected cd] ∧
      t.world.radioListening = true ∧ usesUpPoll s t

/-- R185: a status request is answered with the rating and majority of the last closed window, then the actuators are
driven, then the step ticks. -/
def Obligations.StatusRequestIsAnswered : Prop :=
  ∀ (s : State) (clk : Time) (B : FrameBytes) (sel : Sel3) (pri : Primary) (aux : Auxiliary),
    s.params.role = .rx → s.regs.lsPhase = .idle → s.world.radioListening = true → clk = s.world.nextClock →
    s.world.callClock.nextReceived = some B → decodeFrame s.params.types B = .control .status sel pri aux →
    ∃ t cd v ok, exec .rxpoll s = .next t ∧ sameSetting s t ∧
      t.regs = Regs.tick s.params clk
        { Regs.probe cd { s.regs with lsLastRxTime := clk } with lsLastTxTime := clk } ∧
      addsCalls s t ([.clockNow clk, .radioTryReceive (some B), .radioCarrierDetected cd,
          .radioSetListening false, .battRead v,
          .radioSend (encodeFrame s.params.types (.status s.regs.sqGoodMajority s.regs.sqRating v)) ok,
          .radioSetListening true] ++
        actuatorCalls s.params pri aux) ∧
      t.world.radioListening = true ∧ usesUpPoll s t

/-- R187: a calibration request for channel 0 to 5 is answered with the stored values under the request's own type;
nothing is written to the calibration holder. -/
def Obligations.CalibrationRequestIsAnswered : Prop :=
  ∀ (s : State) (clk : Time) (B : FrameBytes) (request : Req) (sel : Sel3) (pri : Primary) (aux : Auxiliary),
    s.params.role = .rx → s.regs.lsPhase = .idle → s.world.radioListening = true → clk = s.world.nextClock →
    s.world.callClock.nextReceived = some B → decodeFrame s.params.types B = .control request sel pri aux →
    request = .calibGet ∨ request = .calibSet → sel.toNat ≤ 5 →
    ∃ t cd val ok reply, exec .rxpoll s = .next t ∧ sameSetting s t ∧
      (request = .calibGet → reply = .calibGet (BitVec.ofNat 8 sel.toNat) val) ∧
      (request = .calibSet → reply = .calibSet (BitVec.ofNat 8 sel.toNat) val) ∧
      t.regs = Regs.tick s.params clk
        { Regs.probe cd { s.regs with lsLastRxTime := clk } with lsLastTxTime := clk } ∧
      addsCalls s t ([.clockNow clk, .radioTryReceive (some B), .radioCarrierDetected cd,
          .radioSetListening false, .calRead sel val, .radioSend (encodeFrame s.params.types reply) ok,
          .radioSetListening true] ++
        actuatorCalls s.params pri aux) ∧
      t.world.radioListening = true ∧ usesUpPoll s t

/-- R186: no request, or a calibration request for channel 6 or 7: no reply, and the channel values are forwarded. -/
def Obligations.RequestsWithoutReply : Prop :=
  ∀ (s : State) (clk : Time) (B : FrameBytes) (request : Req) (sel : Sel3) (pri : Primary) (aux : Auxiliary),
    s.params.role = .rx → s.regs.lsPhase = .idle → s.world.radioListening = true → clk = s.world.nextClock →
    s.world.callClock.nextReceived = some B → decodeFrame s.params.types B = .control request sel pri aux →
    request = .none ∨ ((request = .calibGet ∨ request = .calibSet) ∧ 6 ≤ sel.toNat) →
    ∃ t cd, exec .rxpoll s = .next t ∧ sameSetting s t ∧
      t.regs = (Regs.probe cd { s.regs with lsLastRxTime := clk }).tick s.params clk ∧
      addsCalls s t ([.clockNow clk, .radioTryReceive (some B), .radioCarrierDetected cd] ++
        actuatorCalls s.params pri aux) ∧
      t.world.radioListening = true ∧ usesUpPoll s t

/-- R191: eight calls, `id` 0 to 7 in order, each value clamped on its own. -/
def Obligations.ActuatorValuesAreClamped : Prop :=
  ∀ (p : Params) (pri : Primary) (aux : Auxiliary), p.wf →
    (actuatorCommands p pri aux).map (fun c => (c.1.val, c.2.toNat)) =
      [(0, max p.actPriMin.toNat (min p.actPriMax.toNat pri.throttle.toNat)),
       (1, max p.actPriMin.toNat (min p.actPriMax.toNat pri.rudder.toNat)),
       (2, max p.actPriMin.toNat (min p.actPriMax.toNat pri.elevator.toNat)),
       (3, max p.actPriMin.toNat (min p.actPriMax.toNat pri.aileron.toNat)),
       (4, max p.actPriMin.toNat (min p.actPriMax.toNat pri.channel5.toNat)),
       (5, max p.actAuxMin.toNat (min p.actAuxMax.toNat aux.aux0.toNat)),
       (6, max p.actAuxMin.toNat (min p.actAuxMax.toNat aux.aux1.toNat)),
       (7, max p.actAuxMin.toNat (min p.actAuxMax.toNat aux.aux2.toNat))]

/-- A request code by itself: at a receiver the clock sample and the reply of R185 to R187, at a transmitter nothing
(that these rows stand alone is the model's, log 8). -/
def Obligations.RequestCodesAlone : Prop :=
  ∀ (s : State) (sel : Sel3) (clk : Time), clk = s.world.nextClock →
    (s.params.role = .tx → exec (.reqNone sel) s = .next s ∧ exec (.reqStatus sel) s = .next s ∧
      exec (.reqCalibGet sel) s = .next s ∧ exec (.reqCalibSet sel) s = .next s) ∧
    (s.params.role = .rx → s.regs.lsPhase = .idle → s.world.radioListening = true →
      (∃ t, exec (.reqNone sel) s = .next t ∧ sameSetting s t ∧ leavesRadioFrames s t ∧ t.regs = s.regs ∧
        addsCalls s t [.clockNow clk]) ∧
      (∃ t v ok, exec (.reqStatus sel) s = .next t ∧ sameSetting s t ∧ leavesRadioFrames s t ∧
        t.regs = { s.regs with lsLastTxTime := clk } ∧
        addsCalls s t (.clockNow clk ::
          replyCalls s.params.types (.battRead v) (.status s.regs.sqGoodMajority s.regs.sqRating v) ok)) ∧
      (sel.toNat ≤ 5 →
        (∃ t val ok, exec (.reqCalibGet sel) s = .next t ∧ sameSetting s t ∧ leavesRadioFrames s t ∧
          t.regs = { s.regs with lsLastTxTime := clk } ∧
          addsCalls s t (.clockNow clk ::
            replyCalls s.params.types (.calRead sel val) (.calibGet (BitVec.ofNat 8 sel.toNat) val) ok)) ∧
        (∃ t val ok, exec (.reqCalibSet sel) s = .next t ∧ sameSetting s t ∧ leavesRadioFrames s t ∧
          t.regs = { s.regs with lsLastTxTime := clk } ∧
          addsCalls s t (.clockNow clk ::
            replyCalls s.params.types (.calRead sel val) (.calibSet (BitVec.ofNat 8 sel.toNat) val) ok))) ∧
      (6 ≤ sel.toNat →
        (∃ t, exec (.reqCalibGet sel) s = .next t ∧ sameSetting s t ∧ leavesRadioFrames s t ∧ t.regs = s.regs ∧
          addsCalls s t [.clockNow clk]) ∧
        (∃ t, exec (.reqCalibSet sel) s = .next t ∧ sameSetting s t ∧ leavesRadioFrames s t ∧ t.regs = s.regs ∧
          addsCalls s t [.clockNow clk])))

/-! ## Frames as instructions (log 7): a frame that reaches a radio which holds none is what the endpoint's poll obtains.
`FrameWaitsBehindHeldFrames` says what holds where older frames are held. -/

/-- A Control frame at a receiver: obtained, probed, the reply its request asks for, the eight actuator calls, TICK
(the row as an instruction is the model's, log 7). -/
def Obligations.ReceiverActsOnControlFrame : Prop :=
  ∀ (s : State) (clk : Time) (request : Req) (sel : Sel3) (pri : Primary) (aux : Auxiliary),
    s.params.role = .rx → s.regs.lsPhase = .idle → s.world.radioListening = true → s.world.radioHeld = [] →
    clk = s.world.nextClock →
    ∃ t cd reply, exec (.frameControl request sel pri aux) s = .next t ∧ sameSetting s t ∧ leavesRadioFrames s t ∧
      addsCalls s t ([.clockNow clk,
        .radioTryReceive (some (encodeFrame s.params.types (.control request sel pri aux))),
        .radioCarrierDetected cd] ++ reply ++ actuatorCalls s.params pri aux) ∧
      (request = .none → reply = []) ∧
      (request = .status → ∃ v ok,
        reply = replyCalls s.params.types (.battRead v) (.status s.regs.sqGoodMajority s.regs.sqRating v) ok) ∧
      (request = .calibGet → sel.toNat ≤ 5 → ∃ val ok,
        reply = replyCalls s.params.types (.calRead sel val) (.calibGet (BitVec.ofNat 8 sel.toNat) val) ok) ∧
      (request = .calibSet → sel.toNat ≤ 5 → ∃ val ok,
        reply = replyCalls s.params.types (.calRead sel val) (.calibSet (BitVec.ofNat 8 sel.toNat) val) ok) ∧
      (request ≠ .status → 6 ≤ sel.toNat → reply = []) ∧
      t.regs = Regs.tick s.params clk { Regs.probe cd { s.regs with lsLastRxTime := clk } with
        lsLastTxTime := if reply = [] then s.regs.lsLastTxTime else clk }

/-- A frame of any other type at a receiver: the receive time, one probe, the step's TICK, and no other call
(the rows as instructions are the model's, log 7). -/
def Obligations.ReceiverIgnoresOtherFrames : Prop :=
  ∀ (s : State) (clk : Time) (i : Instr) (B : FrameBytes), s.params.role = .rx → s.regs.lsPhase = .idle →
    s.world.radioListening = true → s.world.radioHeld = [] → s.params.types.wf →
    clk = s.world.nextClock → i.wf s.params.types = true → encode s.params.types i = .frame B →
    (i = .frameUnknown ∨ (∃ type, i = .frameUnassigned type) ∨ (∃ good rating batt, i = .frameStatus good rating batt) ∨
      (∃ sel val, i = .frameCalibGet sel val) ∨ (∃ sel val, i = .frameCalibSet sel val)) →
    ∃ t cd, exec i s = .next t ∧ sameSetting s t ∧ leavesRadioFrames s t ∧
      t.regs = (Regs.probe cd { s.regs with lsLastRxTime := clk }).tick s.params clk ∧
      addsCalls s t [.clockNow clk, .radioTryReceive (some B), .radioCarrierDetected cd]

/-- A Status frame at a transmitter that listens: its fields are held, and the window ends (the row as an instruction is
the model's, log 7). -/
def Obligations.TransmitterHoldsStatusFrame : Prop :=
  ∀ (s : State) (clk : Time) (good : Bool) (rating : Byte) (batt : BattBits),
    s.params.role = .tx → s.regs.lsPhase = .listen → s.world.radioHeld = [] → s.params.types.wf →
    clk = s.world.nextClock → (clk - s.regs.lsListenStart).toNat < s.params.listenDurationMs →
    ∃ t cd, exec (.frameStatus good rating batt) s = .next t ∧ sameSetting s t ∧ leavesRadioFrames s t ∧
      t.regs = { finishRegs s.params cd clk { s.regs with
          lsLastRxTime := clk, lsLastLatency := clk - s.regs.lsLastTxTime, statGood := good, statRating := rating,
          statBatt := batt, lsLastStatusTime := clk } with lsPhase := .idle } ∧
      addsCalls s t ([.clockNow clk,
        .radioTryReceive (some (encodeFrame s.params.types (.status good rating batt))),
        .radioSetListening false] ++ finishCalls s.params cd)

/-- A frame of any other type at a transmitter that listens: a calibration frame is handed on, the rest is discarded; the
times are written and the window ends (the rows as instructions are the model's, log 7). -/
def Obligations.TransmitterHandsOnOrDiscardsFrame : Prop :=
  ∀ (s : State) (clk : Time) (i : Instr) (B : FrameBytes),
    s.params.role = .tx → s.regs.lsPhase = .listen → s.world.radioHeld = [] → s.params.types.wf →
    clk = s.world.nextClock → (clk - s.regs.lsListenStart).toNat < s.params.listenDurationMs →
    i.wf s.params.types = true → encode s.params.types i = .frame B →
    (∀ good rating batt, i ≠ .frameStatus good rating batt) →
    ∃ t cd delivered, exec i s = .next t ∧ sameSetting s t ∧ leavesRadioFrames s t ∧
      t.regs = { finishRegs s.params cd clk { s.regs with
          lsLastRxTime := clk, lsLastLatency := clk - s.regs.lsLastTxTime } with lsPhase := .idle } ∧
      addsCalls s t ([.clockNow clk, .radioTryReceive (some B)] ++ delivered ++ [.radioSetListening false] ++
        finishCalls s.params cd) ∧
      (∀ sel val, i = .frameCalibGet sel val → delivered = [.calEngineDeliver .calibGet sel val]) ∧
      (∀ sel val, i = .frameCalibSet sel val → delivered = [.calEngineDeliver .calibSet sel val]) ∧
      ((∀ sel val, i ≠ .frameCalibGet sel val ∧ i ≠ .frameCalibSet sel val) → delivered = [])

/-- A frame that reaches a radio which holds older ones joins them at the end or is lost, and the endpoint's poll obtains
the oldest one, `A`, not this frame: frames come in link order (R68, R208, U12). `u` is the state in which the frame has
joined (the rows as instructions are the model's, log 7, and so is the choice, log 13). -/
def Obligations.FrameWaitsBehindHeldFrames : Prop :=
  ∀ (s : State) (i : Instr) (A B : FrameBytes) (rest : List FrameBytes),
    encode s.params.types i = .frame B → s.world.radioHeld = A :: rest →
    (s.params.role = .rx → s.regs.lsPhase = .idle → s.world.radioListening = true →
      ∃ u t calls, frameJoins B s u ∧ exec .rxpoll u = .next t ∧ exec i s = .next t ∧ addsCalls s t calls ∧
        receivedFrames calls = [A] ∧ usesUpPoll u t) ∧
    (s.params.role = .tx → s.regs.lsPhase = .listen →
      (s.world.nextClock - s.regs.lsListenStart).toNat < s.params.listenDurationMs →
      ∃ u t calls, frameJoins B s u ∧ exec .listenstep u = .next t ∧ exec i s = .next t ∧ addsCalls s t calls ∧
        receivedFrames calls = [A] ∧ usesUpPoll u t)

/-- A frame that a transmitter does not poll for, because it is in `IDLE` or because the step finds its window expired,
is left with the radio, behind what it holds, or lost, and no register takes anything from it (R70, R157; the rows as
instructions are the model's, log 7, and so is the choice, log 13). -/
def Obligations.UnpolledFrameStaysOrIsLost : Prop :=
  ∀ (s : State) (i : Instr) (B : FrameBytes), s.params.role = .tx → encode s.params.types i = .frame B →
    (s.regs.lsPhase = .idle → ∃ t, exec i s = .next t ∧ frameJoins B s t) ∧
    (s.regs.lsPhase = .listen →
      s.params.listenDurationMs ≤ (s.world.nextClock - s.regs.lsListenStart).toNat →
      ∃ u t, exec .listenstep s = .next u ∧ exec i s = .next t ∧ frameJoins B u t ∧ sameSetting s t ∧
        t.world.answers.received = s.world.answers.received ∧ leftWithRadio B s.world.radioHeld t.world.radioHeld)

/-- ENCODE and DECODE evaluated by the host read and write no register and call nobody; their value is handed back
(where it is handed back is the model's, log 9). -/
def Obligations.CodecEvaluationHandsBackItsValue : Prop :=
  ∀ (s : State) (f : Frame) (B : FrameBytes),
    exec (.codecEncode f) s = .next { s with codecOut := some (.encoded (encodeFrame s.params.types f)) } ∧
    exec (.codecDecode B) s = .next { s with codecOut := some (.decoded (decodeFrame s.params.types B)) }

/-! ## RESET -/

/-- R49, R230: in every state RESET gives every register its reset value and does nothing else; power-on leaves the
same registers. -/
def Obligations.ResetClearsEveryRegister : Prop :=
  ∀ (s : State) (r : Regs),
    r = { sqGood := 0#16, sqWeak := 0#16, sqWinStart := 0#32, sqRating := 0#8, sqGoodMajority := false,
          lsPhase := .idle, lsLastTxTime := 0#32, lsLastRxTime := 0#32, lsLastLatency := 0#32,
          lsLastStatusTime := 0#32, lsReqDecision := .none, lsListenStart := 0#32, statGood := false,
          statRating := 0#8, statBatt := 0#32 } →
    exec .reset s = .next { s with regs := r } ∧ State.reset.regs = r

/-- R231: a RESET inside a listen window abandons it; FINISH is not run, no collaborator is called, and the radio is left
in listening mode, so that it is no longer in the mode that goes with the state. -/
def Obligations.ResetInsideWindowLeavesRadioListening : Prop :=
  ∀ s : State, s.params.role = .tx → s.regs.lsPhase = .listen → RadioInv s →
    ∃ t, exec .reset s = .next t ∧ t.regs = Regs.reset ∧ t.regs.lsPhase = .idle ∧ addsCalls s t [] ∧
      t.world.radioListening = true ∧ ¬ RadioInv t

/-- R220, R221, R231, R233 (U19: "refuse"): while the radio is not in the resting mode of the role, as after a RESET
inside a listen window, the operations that begin at the radio are refused; the host can put the radio back in `IDLE`,
and then the radio is in its mode again. No register, call or entry but that one is touched (how the host's act stands
among its entries is the model's, log 5, log 6). -/
def Obligations.RadioOutOfModeIsRefusedUntilRestored : Prop :=
  ∀ s : State, s.regs.lsPhase = .idle →
    (s.params.role = .tx → s.world.radioListening = true → ∀ pri aux kind sel,
      exec (.txcycle pri aux kind sel) s = .refused .radioNotResting ∧
      exec (.cycle pri aux kind sel) s = .refused .radioNotResting) ∧
    (s.params.role = .rx → s.world.radioListening = false →
      exec .rxpoll s = .refused .radioNotResting ∧
      (∀ sel, exec (.reqNone sel) s = .refused .radioNotResting ∧ exec (.reqStatus sel) s = .refused .radioNotResting ∧
        exec (.reqCalibGet sel) s = .refused .radioNotResting ∧
        exec (.reqCalibSet sel) s = .refused .radioNotResting) ∧
      ∀ i B, encode s.params.types i = .frame B → exec i s = .refused .radioNotResting) ∧
    (∀ rest, s.requests = .restoreRadio :: rest →
      ∃ t, step s = .next t ∧ t.regs = s.regs ∧ sameSetting { s with requests := rest } t ∧ addsCalls s t [] ∧
        leavesRadioFrames s t ∧ RadioInv t)

/-! ## The whole machine -/

/-- The invariant is kept by every step. -/
def Obligations.StepKeepsInvariant : Prop := ∀ s t : State, Inv s → step s = .next t → Inv t

/-- The invariant holds right after reset, and the parameters that R7 gives a value have it (the values of the open ones
are the model's, log 1). -/
def Obligations.ResetMeetsInvariant : Prop :=
  ∀ (role : Role) (p : Params), p = Params.default role →
    Inv (State.resetWith p) ∧ State.reset = State.resetWith (Params.default .tx) ∧ p.role = role ∧ p.wMs = 500 ∧
    p.tSamples = 200 ∧ p.ratingHalf = 33 ∧ p.fetchIntervalMs = 500 ∧ p.listenDurationMs = 20 ∧
    p.types = ⟨0#8, 1#8, 2#8, 3#8, 4#8⟩

/-- The radio stays in the mode the state says (R47, derived there) in every step but a RESET inside a listen window
(R231); and it is in that mode right after reset (log 5). -/
def Obligations.StepKeepsRadioMode : Prop :=
  (∀ p : Params, RadioInv (State.resetWith p)) ∧
  ∀ s t : State, RadioInv s → step s = .next t →
    ¬ (decode s.params.types s.presented = .ok .reset ∧ s.params.role = .tx ∧ s.regs.lsPhase = .listen) → RadioInv t

/-- Every instruction only adds to the event trace, and the calls it adds keep the half-duplex rule: `send` only in
transmitting mode, `tryReceive` only in listening mode (R70, derived there). -/
def Obligations.HalfDuplexDiscipline : Prop :=
  ∀ (i : Instr) (s t : State), RadioInv s → exec i s = .next t →
    ∃ calls, addsCalls s t calls ∧ halfDuplex s.world.radioListening calls = true

/-- R77: no operation changes a parameter. -/
def Obligations.ParametersNeverChange : Prop :=
  ∀ (i : Instr) (s t : State), exec i s = .next t → t.params = s.params

/-- Only RESET and a Status frame obtained from the radio change the held status registers and the time of the last
Status frame (R35, R160). -/
def Obligations.OnlyStatusFramesChangeHeldStatus : Prop :=
  ∀ (i : Instr) (s t : State), exec i s = .next t → i ≠ .reset →
    ∃ calls, addsCalls s t calls ∧
      ((∀ B ∈ receivedFrames calls, byteAt B 0 ≠ s.params.types.status) → KeepsStatus s.regs t.regs)

/-- Actuators are driven by a receiver only, and only in a step that obtained a Control frame (R184, R191, R125). -/
def Obligations.OnlyControlFramesDriveActuators : Prop :=
  ∀ (i : Instr) (s t : State), exec i s = .next t →
    ∃ calls, addsCalls s t calls ∧ (calls.any Event.isActuator = true →
      s.params.role = .rx ∧ ∃ B ∈ receivedFrames calls, byteAt B 0 = s.params.types.control)

/-- R28: when PROBE, TICK, TXCYCLE, RXPOLL and RESET are enabled, and the phase after each. Of LISTENSTEP it says this in
`LISTEN` only: there it is enabled exactly at a transmitter, and the phase after it is the table's; in `IDLE`, where the
table does not enable it, the model's instruction completes and changes nothing (log 19, `NoRequestInIdleDoesNothing`).
The radio is in the mode R47 gives it. -/
def Obligations.StepTableOfPhases : Prop :=
  ∀ s : State, RadioInv s →
    (∀ cd, (s.regs.lsPhase = .idle ↔ ∃ t, exec (.probe cd) s = .next t) ∧
      ∀ t, exec (.probe cd) s = .next t → t.regs.lsPhase = .idle) ∧
    (∀ now, (s.regs.lsPhase = .idle ↔ ∃ t, exec (.tick now) s = .next t) ∧
      ∀ t, exec (.tick now) s = .next t → t.regs.lsPhase = .idle) ∧
    (∀ pri aux kind sel,
      ((s.params.role = .tx ∧ s.regs.lsPhase = .idle) ↔ ∃ t, exec (.txcycle pri aux kind sel) s = .next t) ∧
      ∀ t, exec (.txcycle pri aux kind sel) s = .next t →
        t.regs.lsPhase = if t.regs.lsReqDecision = .none then .idle else .listen) ∧
    (s.regs.lsPhase = .listen →
      (s.params.role = .tx ↔ ∃ t, exec .listenstep s = .next t) ∧
      ∀ t, exec .listenstep s = .next t →
        (t.regs.lsPhase = .listen ↔ s.world.callClock.nextReceived = none ∧
          (s.world.nextClock - s.regs.lsListenStart).toNat < s.params.listenDurationMs)) ∧
    ((s.params.role = .rx ∧ s.regs.lsPhase = .idle) ↔ ∃ t, exec .rxpoll s = .next t) ∧
    (∀ t, exec .rxpoll s = .next t → t.regs.lsPhase = .idle) ∧
    (∃ t, exec .reset s = .next t ∧ t.regs.lsPhase = .idle)

/-- In every state that meets the invariant, its radio in the mode R47 gives it, the block can go on: in `IDLE` with a
host operation, in `LISTEN` with its own step (R221, derived there). -/
def Obligations.BlockIsNeverStuck : Prop :=
  ∀ s : State, Inv s → RadioInv s →
    (s.regs.lsPhase = .idle → ∀ cd now, (∃ t, exec (.probe cd) s = .next t) ∧ ∃ t, exec (.tick now) s = .next t) ∧
    (s.regs.lsPhase = .idle → s.params.role = .tx → ∀ pri aux kind sel,
      ∃ t, exec (.txcycle pri aux kind sel) s = .next t) ∧
    (s.params.role = .rx → ∃ t, exec .rxpoll s = .next t) ∧
    (s.regs.lsPhase = .listen → ∃ t, exec .listenstep s = .next t)

/-! ## Conditions -/

/-- R204: a TimingMiss returns the radio to transmitting mode and ends the cycle; every held status and timing register
keeps its value. -/
def Obligations.TimingMissKeepsLastKnownValues : Prop :=
  ∀ s : State, s.params.role = .tx → s.regs.lsPhase = .listen → s.listenCondition = some .timingMiss →
    ∃ t, exec .listenstep s = .next t ∧ t.regs.lsPhase = .idle ∧ t.world.radioListening = false ∧
      KeepsLink s.regs t.regs

/-- R203: a discarded frame still sets the receive time, at a receiver is still probed, at a transmitter still sets the
latency and ends the window; no register, actuator or collaborator takes anything of its payload: every register after
the step is given, and none of them depends on the frame. -/
def Obligations.ProtocolMismatchIsDiscarded : Prop :=
  ∀ (s : State) (clk : Time), clk = s.world.nextClock →
    (s.params.role = .tx → s.regs.lsPhase = .listen → s.listenCondition = some .protocolMismatch →
      ∃ t B cd, exec .listenstep s = .next t ∧ sameSetting s t ∧
        t.regs = { finishRegs s.params cd clk { s.regs with
            lsLastRxTime := clk, lsLastLatency := clk - s.regs.lsLastTxTime } with lsPhase := .idle } ∧
        addsCalls s t ([.clockNow clk, .radioTryReceive (some B), .radioSetListening false] ++
          finishCalls s.params cd) ∧
        t.world.radioListening = false ∧ usesUpPoll s t) ∧
    (s.params.role = .rx → s.regs.lsPhase = .idle → s.world.radioListening = true →
      s.rxpollCondition = some .protocolMismatch →
      ∃ t B cd, exec .rxpoll s = .next t ∧ sameSetting s t ∧
        t.regs = (Regs.probe cd { s.regs with lsLastRxTime := clk }).tick s.params clk ∧
        addsCalls s t [.clockNow clk, .radioTryReceive (some B), .radioCarrierDetected cd] ∧
        t.world.radioListening = true ∧ usesUpPoll s t)

/-! ## Two endpoints (log 16) -/

/-- R68, R206: whatever the endpoints do, whichever sends fail and whatever the link loses, the frames one endpoint has
obtained, followed by those on the way to it, stay a subsequence of the frames the other one has put on the link, and so
the frames obtained are a subsequence of the frames it has sent (the system's events are the model's, log 16). -/
def Obligations.LinkDeliversASubsequence : Prop :=
  LinkInv System.reset ∧
  (∀ (ev : SystemEvent) (y z : System), LinkInv y → System.step ev y = .next z → LinkInv z) ∧
  ∀ y : System, LinkInv y →
    (receivedFrames y.rx.world.trace).Sublist (sentFrames y.tx.world.trace) ∧
    (receivedFrames y.tx.world.trace).Sublist (sentFrames y.rx.world.trace)

/-- The endpoints share no register and no clock: a step of one, or its host's act on its radio, leaves the other as it
is, a loss on the link leaves both, and each asks its own collaborators throughout, whose free answers are functions of
their own (R216; the system's events and the number of the collaborators are the model's, log 16, log 23). -/
def Obligations.EndpointsShareNoState : Prop :=
  System.reset.tx.world.source ≠ System.reset.rx.world.source ∧
  ∀ (y z : System) (i : Instr) (deliver : Bool) (e : Endpoint) (place : Nat),
    (System.step (.stepOf .tx i deliver) y = .next z → z.rx = y.rx ∧ z.tx.world.source = y.tx.world.source) ∧
    (System.step (.stepOf .rx i deliver) y = .next z → z.tx = y.tx ∧ z.rx.world.source = y.rx.world.source) ∧
    (System.step (.restoreRadioOf .tx) y = .next z → z.rx = y.rx ∧ z.tx.world.source = y.tx.world.source) ∧
    (System.step (.restoreRadioOf .rx) y = .next z → z.tx = y.tx ∧ z.rx.world.source = y.rx.world.source) ∧
    (∃ w, System.step (.loseTowards e place) y = .next w ∧ w.tx = y.tx ∧ w.rx = y.rx)
end

