-- ==== Sys2Proof/Laws/State.lean ====
section
/-! SUPPORT. The small lemmas of the state: what each register write and each collaborator call leaves in each field. -/

namespace Sys2Proof.Machine

open Sys2Proof

/-! The two parts of the state. -/

@[simp] theorem State.onRegs_regs (f : Regs → Regs) (s : State) : (s.onRegs f).regs = f s.regs := rfl
@[simp] theorem State.onRegs_params (f : Regs → Regs) (s : State) : (s.onRegs f).params = s.params := rfl
@[simp] theorem State.onRegs_world (f : Regs → Regs) (s : State) : (s.onRegs f).world = s.world := rfl
@[simp] theorem State.onRegs_requests (f : Regs → Regs) (s : State) : (s.onRegs f).requests = s.requests := rfl
@[simp] theorem State.onRegs_codecOut (f : Regs → Regs) (s : State) : (s.onRegs f).codecOut = s.codecOut := rfl
@[simp] theorem State.onRegs_byCycle (f : Regs → Regs) (s : State) : (s.onRegs f).byCycle = s.byCycle := rfl
@[simp] theorem State.onWorld_regs (f : World → World) (s : State) : (s.onWorld f).regs = s.regs := rfl
@[simp] theorem State.onWorld_params (f : World → World) (s : State) : (s.onWorld f).params = s.params := rfl
@[simp] theorem State.onWorld_world (f : World → World) (s : State) : (s.onWorld f).world = f s.world := rfl
@[simp] theorem State.onWorld_requests (f : World → World) (s : State) : (s.onWorld f).requests = s.requests := rfl
@[simp] theorem State.onWorld_codecOut (f : World → World) (s : State) : (s.onWorld f).codecOut = s.codecOut := rfl
@[simp] theorem State.onWorld_byCycle (f : World → World) (s : State) : (s.onWorld f).byCycle = s.byCycle := rfl
@[simp] theorem State.begunBy_regs (b : Bool) (s : State) : (s.begunBy b).regs = s.regs := rfl
@[simp] theorem State.begunBy_params (b : Bool) (s : State) : (s.begunBy b).params = s.params := rfl
@[simp] theorem State.begunBy_world (b : Bool) (s : State) : (s.begunBy b).world = s.world := rfl
@[simp] theorem State.begunBy_requests (b : Bool) (s : State) : (s.begunBy b).requests = s.requests := rfl
@[simp] theorem State.begunBy_codecOut (b : Bool) (s : State) : (s.begunBy b).codecOut = s.codecOut := rfl
@[simp] theorem State.begunBy_byCycle (b : Bool) (s : State) : (s.begunBy b).byCycle = b := rfl
@[simp] theorem restingMode_tx : restingMode .tx = false := rfl
@[simp] theorem restingMode_rx : restingMode .rx = true := rfl

/-! Register writes, field by field. -/

@[simp] theorem Regs.setDecision_sqGood (q : Req) (r : Regs) :
    (r.setDecision q).sqGood = r.sqGood := rfl
@[simp] theorem Regs.setDecision_sqWeak (q : Req) (r : Regs) :
    (r.setDecision q).sqWeak = r.sqWeak := rfl
@[simp] theorem Regs.setDecision_sqWinStart (q : Req) (r : Regs) :
    (r.setDecision q).sqWinStart = r.sqWinStart := rfl
@[simp] theorem Regs.setDecision_sqRating (q : Req) (r : Regs) :
    (r.setDecision q).sqRating = r.sqRating := rfl
@[simp] theorem Regs.setDecision_sqGoodMajority (q : Req) (r : Regs) :
    (r.setDecision q).sqGoodMajority = r.sqGoodMajority := rfl
@[simp] theorem Regs.setDecision_lsPhase (q : Req) (r : Regs) :
    (r.setDecision q).lsPhase = r.lsPhase := rfl
@[simp] theorem Regs.setDecision_lsLastTxTime (q : Req) (r : Regs) :
    (r.setDecision q).lsLastTxTime = r.lsLastTxTime := rfl
@[simp] theorem Regs.setDecision_lsLastRxTime (q : Req) (r : Regs) :
    (r.setDecision q).lsLastRxTime = r.lsLastRxTime := rfl
@[simp] theorem Regs.setDecision_lsLastLatency (q : Req) (r : Regs) :
    (r.setDecision q).lsLastLatency = r.lsLastLatency := rfl
@[simp] theorem Regs.setDecision_lsLastStatusTime (q : Req) (r : Regs) :
    (r.setDecision q).lsLastStatusTime = r.lsLastStatusTime := rfl
@[simp] theorem Regs.setDecision_lsReqDecision (q : Req) (r : Regs) :
    (r.setDecision q).lsReqDecision = q := rfl
@[simp] theorem Regs.setDecision_lsListenStart (q : Req) (r : Regs) :
    (r.setDecision q).lsListenStart = r.lsListenStart := rfl
@[simp] theorem Regs.setDecision_statGood (q : Req) (r : Regs) :
    (r.setDecision q).statGood = r.statGood := rfl
@[simp] theorem Regs.setDecision_statRating (q : Req) (r : Regs) :
    (r.setDecision q).statRating = r.statRating := rfl
@[simp] theorem Regs.setDecision_statBatt (q : Req) (r : Regs) :
    (r.setDecision q).statBatt = r.statBatt := rfl

@[simp] theorem Regs.noteSend_sqGood (t : Time) (r : Regs) :
    (r.noteSend t).sqGood = r.sqGood := rfl
@[simp] theorem Regs.noteSend_sqWeak (t : Time) (r : Regs) :
    (r.noteSend t).sqWeak = r.sqWeak := rfl
@[simp] theorem Regs.noteSend_sqWinStart (t : Time) (r : Regs) :
    (r.noteSend t).sqWinStart = r.sqWinStart := rfl
@[simp] theorem Regs.noteSend_sqRating (t : Time) (r : Regs) :
    (r.noteSend t).sqRating = r.sqRating := rfl
@[simp] theorem Regs.noteSend_sqGoodMajority (t : Time) (r : Regs) :
    (r.noteSend t).sqGoodMajority = r.sqGoodMajority := rfl
@[simp] theorem Regs.noteSend_lsPhase (t : Time) (r : Regs) :
    (r.noteSend t).lsPhase = r.lsPhase := rfl
@[simp] theorem Regs.noteSend_lsLastTxTime (t : Time) (r : Regs) :
    (r.noteSend t).lsLastTxTime = t := rfl
@[simp] theorem Regs.noteSend_lsLastRxTime (t : Time) (r : Regs) :
    (r.noteSend t).lsLastRxTime = r.lsLastRxTime := rfl
@[simp] theorem Regs.noteSend_lsLastLatency (t : Time) (r : Regs) :
    (r.noteSend t).lsLastLatency = r.lsLastLatency := rfl
@[simp] theorem Regs.noteSend_lsLastStatusTime (t : Time) (r : Regs) :
    (r.noteSend t).lsLastStatusTime = r.lsLastStatusTime := rfl
@[simp] theorem Regs.noteSend_lsReqDecision (t : Time) (r : Regs) :
    (r.noteSend t).lsReqDecision = r.lsReqDecision := rfl
@[simp] theorem Regs.noteSend_lsListenStart (t : Time) (r : Regs) :
    (r.noteSend t).lsListenStart = r.lsListenStart := rfl
@[simp] theorem Regs.noteSend_statGood (t : Time) (r : Regs) :
    (r.noteSend t).statGood = r.statGood := rfl
@[simp] theorem Regs.noteSend_statRating (t : Time) (r : Regs) :
    (r.noteSend t).statRating = r.statRating := rfl
@[simp] theorem Regs.noteSend_statBatt (t : Time) (r : Regs) :
    (r.noteSend t).statBatt = r.statBatt := rfl

@[simp] theorem Regs.noteReceive_sqGood (t : Time) (r : Regs) :
    (r.noteReceive t).sqGood = r.sqGood := rfl
@[simp] theorem Regs.noteReceive_sqWeak (t : Time) (r : Regs) :
    (r.noteReceive t).sqWeak = r.sqWeak := rfl
@[simp] theorem Regs.noteReceive_sqWinStart (t : Time) (r : Regs) :
    (r.noteReceive t).sqWinStart = r.sqWinStart := rfl
@[simp] theorem Regs.noteReceive_sqRating (t : Time) (r : Regs) :
    (r.noteReceive t).sqRating = r.sqRating := rfl
@[simp] theorem Regs.noteReceive_sqGoodMajority (t : Time) (r : Regs) :
    (r.noteReceive t).sqGoodMajority = r.sqGoodMajority := rfl
@[simp] theorem Regs.noteReceive_lsPhase (t : Time) (r : Regs) :
    (r.noteReceive t).lsPhase = r.lsPhase := rfl
@[simp] theorem Regs.noteReceive_lsLastTxTime (t : Time) (r : Regs) :
    (r.noteReceive t).lsLastTxTime = r.lsLastTxTime := rfl
@[simp] theorem Regs.noteReceive_lsLastRxTime (t : Time) (r : Regs) :
    (r.noteReceive t).lsLastRxTime = t := rfl
@[simp] theorem Regs.noteReceive_lsLastLatency (t : Time) (r : Regs) :
    (r.noteReceive t).lsLastLatency = r.lsLastLatency := rfl
@[simp] theorem Regs.noteReceive_lsLastStatusTime (t : Time) (r : Regs) :
    (r.noteReceive t).lsLastStatusTime = r.lsLastStatusTime := rfl
@[simp] theorem Regs.noteReceive_lsReqDecision (t : Time) (r : Regs) :
    (r.noteReceive t).lsReqDecision = r.lsReqDecision := rfl
@[simp] theorem Regs.noteReceive_lsListenStart (t : Time) (r : Regs) :
    (r.noteReceive t).lsListenStart = r.lsListenStart := rfl
@[simp] theorem Regs.noteReceive_statGood (t : Time) (r : Regs) :
    (r.noteReceive t).statGood = r.statGood := rfl
@[simp] theorem Regs.noteReceive_statRating (t : Time) (r : Regs) :
    (r.noteReceive t).statRating = r.statRating := rfl
@[simp] theorem Regs.noteReceive_statBatt (t : Time) (r : Regs) :
    (r.noteReceive t).statBatt = r.statBatt := rfl

@[simp] theorem Regs.noteLatency_sqGood (t : Time) (r : Regs) :
    (r.noteLatency t).sqGood = r.sqGood := rfl
@[simp] theorem Regs.noteLatency_sqWeak (t : Time) (r : Regs) :
    (r.noteLatency t).sqWeak = r.sqWeak := rfl
@[simp] theorem Regs.noteLatency_sqWinStart (t : Time) (r : Regs) :
    (r.noteLatency t).sqWinStart = r.sqWinStart := rfl
@[simp] theorem Regs.noteLatency_sqRating (t : Time) (r : Regs) :
    (r.noteLatency t).sqRating = r.sqRating := rfl
@[simp] theorem Regs.noteLatency_sqGoodMajority (t : Time) (r : Regs) :
    (r.noteLatency t).sqGoodMajority = r.sqGoodMajority := rfl
@[simp] theorem Regs.noteLatency_lsPhase (t : Time) (r : Regs) :
    (r.noteLatency t).lsPhase = r.lsPhase := rfl
@[simp] theorem Regs.noteLatency_lsLastTxTime (t : Time) (r : Regs) :
    (r.noteLatency t).lsLastTxTime = r.lsLastTxTime := rfl
@[simp] theorem Regs.noteLatency_lsLastRxTime (t : Time) (r : Regs) :
    (r.noteLatency t).lsLastRxTime = r.lsLastRxTime := rfl
@[simp] theorem Regs.noteLatency_lsLastLatency (t : Time) (r : Regs) :
    (r.noteLatency t).lsLastLatency = t - r.lsLastTxTime := rfl
@[simp] theorem Regs.noteLatency_lsLastStatusTime (t : Time) (r : Regs) :
    (r.noteLatency t).lsLastStatusTime = r.lsLastStatusTime := rfl
@[simp] theorem Regs.noteLatency_lsReqDecision (t : Time) (r : Regs) :
    (r.noteLatency t).lsReqDecision = r.lsReqDecision := rfl
@[simp] theorem Regs.noteLatency_lsListenStart (t : Time) (r : Regs) :
    (r.noteLatency t).lsListenStart = r.lsListenStart := rfl
@[simp] theorem Regs.noteLatency_statGood (t : Time) (r : Regs) :
    (r.noteLatency t).statGood = r.statGood := rfl
@[simp] theorem Regs.noteLatency_statRating (t : Time) (r : Regs) :
    (r.noteLatency t).statRating = r.statRating := rfl
@[simp] theorem Regs.noteLatency_statBatt (t : Time) (r : Regs) :
    (r.noteLatency t).statBatt = r.statBatt := rfl

@[simp] theorem Regs.openListen_sqGood (t : Time) (r : Regs) :
    (r.openListen t).sqGood = r.sqGood := rfl
@[simp] theorem Regs.openListen_sqWeak (t : Time) (r : Regs) :
    (r.openListen t).sqWeak = r.sqWeak := rfl
@[simp] theorem Regs.openListen_sqWinStart (t : Time) (r : Regs) :
    (r.openListen t).sqWinStart = r.sqWinStart := rfl
@[simp] theorem Regs.openListen_sqRating (t : Time) (r : Regs) :
    (r.openListen t).sqRating = r.sqRating := rfl
@[simp] theorem Regs.openListen_sqGoodMajority (t : Time) (r : Regs) :
    (r.openListen t).sqGoodMajority = r.sqGoodMajority := rfl
@[simp] theorem Regs.openListen_lsPhase (t : Time) (r : Regs) :
    (r.openListen t).lsPhase = .listen := rfl
@[simp] theorem Regs.openListen_lsLastTxTime (t : Time) (r : Regs) :
    (r.openListen t).lsLastTxTime = r.lsLastTxTime := rfl
@[simp] theorem Regs.openListen_lsLastRxTime (t : Time) (r : Regs) :
    (r.openListen t).lsLastRxTime = r.lsLastRxTime := rfl
@[simp] theorem Regs.openListen_lsLastLatency (t : Time) (r : Regs) :
    (r.openListen t).lsLastLatency = r.lsLastLatency := rfl
@[simp] theorem Regs.openListen_lsLastStatusTime (t : Time) (r : Regs) :
    (r.openListen t).lsLastStatusTime = r.lsLastStatusTime := rfl
@[simp] theorem Regs.openListen_lsReqDecision (t : Time) (r : Regs) :
    (r.openListen t).lsReqDecision = r.lsReqDecision := rfl
@[simp] theorem Regs.openListen_lsListenStart (t : Time) (r : Regs) :
    (r.openListen t).lsListenStart = t := rfl
@[simp] theorem Regs.openListen_statGood (t : Time) (r : Regs) :
    (r.openListen t).statGood = r.statGood := rfl
@[simp] theorem Regs.openListen_statRating (t : Time) (r : Regs) :
    (r.openListen t).statRating = r.statRating := rfl
@[simp] theorem Regs.openListen_statBatt (t : Time) (r : Regs) :
    (r.openListen t).statBatt = r.statBatt := rfl

@[simp] theorem Regs.endListen_sqGood (r : Regs) :
    (r.endListen).sqGood = r.sqGood := rfl
@[simp] theorem Regs.endListen_sqWeak (r : Regs) :
    (r.endListen).sqWeak = r.sqWeak := rfl
@[simp] theorem Regs.endListen_sqWinStart (r : Regs) :
    (r.endListen).sqWinStart = r.sqWinStart := rfl
@[simp] theorem Regs.endListen_sqRating (r : Regs) :
    (r.endListen).sqRating = r.sqRating := rfl
@[simp] theorem Regs.endListen_sqGoodMajority (r : Regs) :
    (r.endListen).sqGoodMajority = r.sqGoodMajority := rfl
@[simp] theorem Regs.endListen_lsPhase (r : Regs) :
    (r.endListen).lsPhase = .idle := rfl
@[simp] theorem Regs.endListen_lsLastTxTime (r : Regs) :
    (r.endListen).lsLastTxTime = r.lsLastTxTime := rfl
@[simp] theorem Regs.endListen_lsLastRxTime (r : Regs) :
    (r.endListen).lsLastRxTime = r.lsLastRxTime := rfl
@[simp] theorem Regs.endListen_lsLastLatency (r : Regs) :
    (r.endListen).lsLastLatency = r.lsLastLatency := rfl
@[simp] theorem Regs.endListen_lsLastStatusTime (r : Regs) :
    (r.endListen).lsLastStatusTime = r.lsLastStatusTime := rfl
@[simp] theorem Regs.endListen_lsReqDecision (r : Regs) :
    (r.endListen).lsReqDecision = r.lsReqDecision := rfl
@[simp] theorem Regs.endListen_lsListenStart (r : Regs) :
    (r.endListen).lsListenStart = r.lsListenStart := rfl
@[simp] theorem Regs.endListen_statGood (r : Regs) :
    (r.endListen).statGood = r.statGood := rfl
@[simp] theorem Regs.endListen_statRating (r : Regs) :
    (r.endListen).statRating = r.statRating := rfl
@[simp] theorem Regs.endListen_statBatt (r : Regs) :
    (r.endListen).statBatt = r.statBatt := rfl

@[simp] theorem Regs.holdStatus_sqGood (g : Bool) (q : Byte) (b : BattBits) (t : Time) (r : Regs) :
    (r.holdStatus g q b t).sqGood = r.sqGood := rfl
@[simp] theorem Regs.holdStatus_sqWeak (g : Bool) (q : Byte) (b : BattBits) (t : Time) (r : Regs) :
    (r.holdStatus g q b t).sqWeak = r.sqWeak := rfl
@[simp] theorem Regs.holdStatus_sqWinStart (g : Bool) (q : Byte) (b : BattBits) (t : Time) (r : Regs) :
    (r.holdStatus g q b t).sqWinStart = r.sqWinStart := rfl
@[simp] theorem Regs.holdStatus_sqRating (g : Bool) (q : Byte) (b : BattBits) (t : Time) (r : Regs) :
    (r.holdStatus g q b t).sqRating = r.sqRating := rfl
@[simp] theorem Regs.holdStatus_sqGoodMajority (g : Bool) (q : Byte) (b : BattBits) (t : Time) (r : Regs) :
    (r.holdStatus g q b t).sqGoodMajority = r.sqGoodMajority := rfl
@[simp] theorem Regs.holdStatus_lsPhase (g : Bool) (q : Byte) (b : BattBits) (t : Time) (r : Regs) :
    (r.holdStatus g q b t).lsPhase = r.lsPhase := rfl
@[simp] theorem Regs.holdStatus_lsLastTxTime (g : Bool) (q : Byte) (b : BattBits) (t : Time) (r : Regs) :
    (r.holdStatus g q b t).lsLastTxTime = r.lsLastTxTime := rfl
@[simp] theorem Regs.holdStatus_lsLastRxTime (g : Bool) (q : Byte) (b : BattBits) (t : Time) (r : Regs) :
    (r.holdStatus g q b t).lsLastRxTime = r.lsLastRxTime := rfl
@[simp] theorem Regs.holdStatus_lsLastLatency (g : Bool) (q : Byte) (b : BattBits) (t : Time) (r : Regs) :
    (r.holdStatus g q b t).lsLastLatency = r.lsLastLatency := rfl
@[simp] theorem Regs.holdStatus_lsLastStatusTime (g : Bool) (q : Byte) (b : BattBits) (t : Time) (r : Regs) :
    (r.holdStatus g q b t).lsLastStatusTime = t := rfl
@[simp] theorem Regs.holdStatus_lsReqDecision (g : Bool) (q : Byte) (b : BattBits) (t : Time) (r : Regs) :
    (r.holdStatus g q b t).lsReqDecision = r.lsReqDecision := rfl
@[simp] theorem Regs.holdStatus_lsListenStart (g : Bool) (q : Byte) (b : BattBits) (t : Time) (r : Regs) :
    (r.holdStatus g q b t).lsListenStart = r.lsListenStart := rfl
@[simp] theorem Regs.holdStatus_statGood (g : Bool) (q : Byte) (b : BattBits) (t : Time) (r : Regs) :
    (r.holdStatus g q b t).statGood = g := rfl
@[simp] theorem Regs.holdStatus_statRating (g : Bool) (q : Byte) (b : BattBits) (t : Time) (r : Regs) :
    (r.holdStatus g q b t).statRating = q := rfl
@[simp] theorem Regs.holdStatus_statBatt (g : Bool) (q : Byte) (b : BattBits) (t : Time) (r : Regs) :
    (r.holdStatus g q b t).statBatt = b := rfl

@[simp] theorem Regs.probe_sqWinStart (cd : Bool) (r : Regs) :
    (r.probe cd).sqWinStart = r.sqWinStart := by unfold Regs.probe; split <;> rfl
@[simp] theorem Regs.probe_sqRating (cd : Bool) (r : Regs) :
    (r.probe cd).sqRating = r.sqRating := by unfold Regs.probe; split <;> rfl
@[simp] theorem Regs.probe_sqGoodMajority (cd : Bool) (r : Regs) :
    (r.probe cd).sqGoodMajority = r.sqGoodMajority := by unfold Regs.probe; split <;> rfl
@[simp] theorem Regs.probe_lsPhase (cd : Bool) (r : Regs) :
    (r.probe cd).lsPhase = r.lsPhase := by unfold Regs.probe; split <;> rfl
@[simp] theorem Regs.probe_lsLastTxTime (cd : Bool) (r : Regs) :
    (r.probe cd).lsLastTxTime = r.lsLastTxTime := by unfold Regs.probe; split <;> rfl
@[simp] theorem Regs.probe_lsLastRxTime (cd : Bool) (r : Regs) :
    (r.probe cd).lsLastRxTime = r.lsLastRxTime := by unfold Regs.probe; split <;> rfl
@[simp] theorem Regs.probe_lsLastLatency (cd : Bool) (r : Regs) :
    (r.probe cd).lsLastLatency = r.lsLastLatency := by unfold Regs.probe; split <;> rfl
@[simp] theorem Regs.probe_lsLastStatusTime (cd : Bool) (r : Regs) :
    (r.probe cd).lsLastStatusTime = r.lsLastStatusTime := by unfold Regs.probe; split <;> rfl
@[simp] theorem Regs.probe_lsReqDecision (cd : Bool) (r : Regs) :
    (r.probe cd).lsReqDecision = r.lsReqDecision := by unfold Regs.probe; split <;> rfl
@[simp] theorem Regs.probe_lsListenStart (cd : Bool) (r : Regs) :
    (r.probe cd).lsListenStart = r.lsListenStart := by unfold Regs.probe; split <;> rfl
@[simp] theorem Regs.probe_statGood (cd : Bool) (r : Regs) :
    (r.probe cd).statGood = r.statGood := by unfold Regs.probe; split <;> rfl
@[simp] theorem Regs.probe_statRating (cd : Bool) (r : Regs) :
    (r.probe cd).statRating = r.statRating := by unfold Regs.probe; split <;> rfl
@[simp] theorem Regs.probe_statBatt (cd : Bool) (r : Regs) :
    (r.probe cd).statBatt = r.statBatt := by unfold Regs.probe; split <;> rfl

@[simp] theorem Regs.tick_lsPhase (p : Params) (now : Time) (r : Regs) :
    (r.tick p now).lsPhase = r.lsPhase := by unfold Regs.tick; split <;> rfl
@[simp] theorem Regs.tick_lsLastTxTime (p : Params) (now : Time) (r : Regs) :
    (r.tick p now).lsLastTxTime = r.lsLastTxTime := by unfold Regs.tick; split <;> rfl
@[simp] theorem Regs.tick_lsLastRxTime (p : Params) (now : Time) (r : Regs) :
    (r.tick p now).lsLastRxTime = r.lsLastRxTime := by unfold Regs.tick; split <;> rfl
@[simp] theorem Regs.tick_lsLastLatency (p : Params) (now : Time) (r : Regs) :
    (r.tick p now).lsLastLatency = r.lsLastLatency := by unfold Regs.tick; split <;> rfl
@[simp] theorem Regs.tick_lsLastStatusTime (p : Params) (now : Time) (r : Regs) :
    (r.tick p now).lsLastStatusTime = r.lsLastStatusTime := by unfold Regs.tick; split <;> rfl
@[simp] theorem Regs.tick_lsReqDecision (p : Params) (now : Time) (r : Regs) :
    (r.tick p now).lsReqDecision = r.lsReqDecision := by unfold Regs.tick; split <;> rfl
@[simp] theorem Regs.tick_lsListenStart (p : Params) (now : Time) (r : Regs) :
    (r.tick p now).lsListenStart = r.lsListenStart := by unfold Regs.tick; split <;> rfl
@[simp] theorem Regs.tick_statGood (p : Params) (now : Time) (r : Regs) :
    (r.tick p now).statGood = r.statGood := by unfold Regs.tick; split <;> rfl
@[simp] theorem Regs.tick_statRating (p : Params) (now : Time) (r : Regs) :
    (r.tick p now).statRating = r.statRating := by unfold Regs.tick; split <;> rfl
@[simp] theorem Regs.tick_statBatt (p : Params) (now : Time) (r : Regs) :
    (r.tick p now).statBatt = r.statBatt := by unfold Regs.tick; split <;> rfl

/-- A good probe counts in `sq_good` only (R131). -/
theorem Regs.probe_good (r : Regs) : r.probe true = { r with sqGood := satSucc r.sqGood } := rfl

/-- A weak probe counts in `sq_weak` only (R131). -/
theorem Regs.probe_weak (r : Regs) : r.probe false = { r with sqWeak := satSucc r.sqWeak } := rfl

/-- A TICK of an elapsed window closes it (R133). -/
theorem Regs.tick_closed {p : Params} {now : Time} {r : Regs} (h : r.windowElapsed p now) :
    r.tick p now = r.closeWindow p now := if_pos h

/-- A TICK before the window has run its length changes nothing (R136). -/
theorem Regs.tick_open {p : Params} {now : Time} {r : Regs} (h : ¬ r.windowElapsed p now) :
    r.tick p now = r := if_neg h

/-! The radio's next answer. -/

/-- A poll obtains the oldest frame held (R68, R208). -/
theorem World.nextReceived_held {w : World} {B : FrameBytes} {rest : List FrameBytes} (h : w.radioHeld = B :: rest) :
    w.nextReceived = some B := by
  unfold World.nextReceived; rw [h]

@[simp] theorem World.takeReceived_trace (w : World) : w.takeReceived.trace = w.trace := by
  unfold World.takeReceived; split <;> rfl
@[simp] theorem World.takeReceived_callCount (w : World) : w.takeReceived.callCount = w.callCount := by
  unfold World.takeReceived; split <;> rfl
@[simp] theorem World.takeReceived_source (w : World) : w.takeReceived.source = w.source := by
  unfold World.takeReceived; split <;> rfl
@[simp] theorem World.takeReceived_radioListening (w : World) :
    w.takeReceived.radioListening = w.radioListening := by
  unfold World.takeReceived; split <;> rfl
@[simp] theorem World.takeReceived_radioHeld (w : World) : w.takeReceived.radioHeld = w.radioHeld.tail := by
  unfold World.takeReceived; split <;> simp_all
@[simp] theorem World.takeReceived_answers (w : World) :
    w.takeReceived.answers =
      { w.answers with received := if w.radioHeld.isEmpty then w.answers.received.tail else w.answers.received } := by
  unfold World.takeReceived; split <;> simp_all

/-! Collaborator calls, field by field. -/

@[simp] theorem World.record_trace (e : Event) (w : World) : (w.record e).trace = w.trace ++ [e] := rfl
@[simp] theorem World.record_callCount (e : Event) (w : World) : (w.record e).callCount = w.callCount + 1 := rfl
@[simp] theorem World.record_source (e : Event) (w : World) : (w.record e).source = w.source := rfl
@[simp] theorem World.record_radioListening (e : Event) (w : World) : (w.record e).radioListening = w.radioListening := rfl
@[simp] theorem World.record_radioHeld (e : Event) (w : World) : (w.record e).radioHeld = w.radioHeld := rfl
@[simp] theorem World.record_answers (e : Event) (w : World) : (w.record e).answers = w.answers := rfl

@[simp] theorem World.callClock_trace (w : World) :
    (w.callClock).trace = w.trace ++ [.clockNow w.nextClock] := rfl
@[simp] theorem World.callClock_callCount (w : World) :
    (w.callClock).callCount = w.callCount + 1 := rfl
@[simp] theorem World.callClock_source (w : World) : (w.callClock).source = w.source := rfl
@[simp] theorem World.callClock_radioListening (w : World) :
    (w.callClock).radioListening = w.radioListening := rfl
@[simp] theorem World.callClock_radioHeld (w : World) :
    (w.callClock).radioHeld = w.radioHeld := rfl
@[simp] theorem World.callClock_answers (w : World) :
    (w.callClock).answers = { w.answers with clock := w.answers.clock.tail } := rfl

@[simp] theorem World.callTryReceive_trace (w : World) :
    (w.callTryReceive).trace = w.trace ++ [.radioTryReceive w.nextReceived] := by
  rw [World.callTryReceive, World.record_trace, World.takeReceived_trace]
@[simp] theorem World.callTryReceive_callCount (w : World) :
    (w.callTryReceive).callCount = w.callCount + 1 := by
  rw [World.callTryReceive, World.record_callCount, World.takeReceived_callCount]
@[simp] theorem World.callTryReceive_source (w : World) : (w.callTryReceive).source = w.source := by
  rw [World.callTryReceive, World.record_source, World.takeReceived_source]
@[simp] theorem World.callTryReceive_radioListening (w : World) :
    (w.callTryReceive).radioListening = w.radioListening := by
  rw [World.callTryReceive, World.record_radioListening, World.takeReceived_radioListening]
@[simp] theorem World.callTryReceive_radioHeld (w : World) :
    (w.callTryReceive).radioHeld = w.radioHeld.tail := by
  rw [World.callTryReceive, World.record_radioHeld, World.takeReceived_radioHeld]
@[simp] theorem World.callTryReceive_answers (w : World) :
    (w.callTryReceive).answers = 
      { w.answers with received := if w.radioHeld.isEmpty then w.answers.received.tail else w.answers.received } := by
  rw [World.callTryReceive, World.record_answers, World.takeReceived_answers]

@[simp] theorem World.callCarrierDetected_trace (w : World) :
    (w.callCarrierDetected).trace = w.trace ++ [.radioCarrierDetected w.nextCarrier] := rfl
@[simp] theorem World.callCarrierDetected_callCount (w : World) :
    (w.callCarrierDetected).callCount = w.callCount + 1 := rfl
@[simp] theorem World.callCarrierDetected_source (w : World) : (w.callCarrierDetected).source = w.source := rfl
@[simp] theorem World.callCarrierDetected_radioListening (w : World) :
    (w.callCarrierDetected).radioListening = w.radioListening := rfl
@[simp] theorem World.callCarrierDetected_radioHeld (w : World) :
    (w.callCarrierDetected).radioHeld = w.radioHeld := rfl
@[simp] theorem World.callCarrierDetected_answers (w : World) :
    (w.callCarrierDetected).answers = { w.answers with carrier := w.answers.carrier.tail } := rfl

@[simp] theorem World.callSend_trace (B : FrameBytes) (w : World) :
    (w.callSend B).trace = w.trace ++ [.radioSend B w.nextSendOk] := rfl
@[simp] theorem World.callSend_callCount (B : FrameBytes) (w : World) :
    (w.callSend B).callCount = w.callCount + 1 := rfl
@[simp] theorem World.callSend_source (B : FrameBytes) (w : World) : (w.callSend B).source = w.source := rfl
@[simp] theorem World.callSend_radioListening (B : FrameBytes) (w : World) :
    (w.callSend B).radioListening = w.radioListening := rfl
@[simp] theorem World.callSend_radioHeld (B : FrameBytes) (w : World) :
    (w.callSend B).radioHeld = w.radioHeld := rfl
@[simp] theorem World.callSend_answers (B : FrameBytes) (w : World) :
    (w.callSend B).answers = { w.answers with sendOk := w.answers.sendOk.tail } := rfl

@[simp] theorem World.callSetListening_trace (on : Bool) (w : World) :
    (w.callSetListening on).trace = w.trace ++ [.radioSetListening on] := rfl
@[simp] theorem World.callSetListening_callCount (on : Bool) (w : World) :
    (w.callSetListening on).callCount = w.callCount + 1 := rfl
@[simp] theorem World.callSetListening_source (on : Bool) (w : World) : (w.callSetListening on).source = w.source := rfl
@[simp] theorem World.callSetListening_radioListening (on : Bool) (w : World) :
    (w.callSetListening on).radioListening = on := rfl
@[simp] theorem World.callSetListening_radioHeld (on : Bool) (w : World) :
    (w.callSetListening on).radioHeld = w.radioHeld := rfl
@[simp] theorem World.callSetListening_answers (on : Bool) (w : World) :
    (w.callSetListening on).answers = w.answers := rfl

@[simp] theorem World.callBattRead_trace (w : World) :
    (w.callBattRead).trace = w.trace ++ [.battRead w.nextBatt] := rfl
@[simp] theorem World.callBattRead_callCount (w : World) :
    (w.callBattRead).callCount = w.callCount + 1 := rfl
@[simp] theorem World.callBattRead_source (w : World) : (w.callBattRead).source = w.source := rfl
@[simp] theorem World.callBattRead_radioListening (w : World) :
    (w.callBattRead).radioListening = w.radioListening := rfl
@[simp] theorem World.callBattRead_radioHeld (w : World) :
    (w.callBattRead).radioHeld = w.radioHeld := rfl
@[simp] theorem World.callBattRead_answers (w : World) :
    (w.callBattRead).answers = { w.answers with batt := w.answers.batt.tail } := rfl

@[simp] theorem World.callCalRead_trace (sel : Sel3) (w : World) :
    (w.callCalRead sel).trace = w.trace ++ [.calRead sel (w.nextCal sel)] := rfl
@[simp] theorem World.callCalRead_callCount (sel : Sel3) (w : World) :
    (w.callCalRead sel).callCount = w.callCount + 1 := rfl
@[simp] theorem World.callCalRead_source (sel : Sel3) (w : World) : (w.callCalRead sel).source = w.source := rfl
@[simp] theorem World.callCalRead_radioListening (sel : Sel3) (w : World) :
    (w.callCalRead sel).radioListening = w.radioListening := rfl
@[simp] theorem World.callCalRead_radioHeld (sel : Sel3) (w : World) :
    (w.callCalRead sel).radioHeld = w.radioHeld := rfl
@[simp] theorem World.callCalRead_answers (sel : Sel3) (w : World) :
    (w.callCalRead sel).answers = { w.answers with cal := w.answers.cal.tail } := rfl

@[simp] theorem World.callSetPulseWidth_trace (id : Fin 8) (v : U16) (w : World) :
    (w.callSetPulseWidth id v).trace = w.trace ++ [.actSetPulseWidth id v] := rfl
@[simp] theorem World.callSetPulseWidth_callCount (id : Fin 8) (v : U16) (w : World) :
    (w.callSetPulseWidth id v).callCount = w.callCount + 1 := rfl
@[simp] theorem World.callSetPulseWidth_source (id : Fin 8) (v : U16) (w : World) : (w.callSetPulseWidth id v).source = w.source := rfl
@[simp] theorem World.callSetPulseWidth_radioListening (id : Fin 8) (v : U16) (w : World) :
    (w.callSetPulseWidth id v).radioListening = w.radioListening := rfl
@[simp] theorem World.callSetPulseWidth_radioHeld (id : Fin 8) (v : U16) (w : World) :
    (w.callSetPulseWidth id v).radioHeld = w.radioHeld := rfl
@[simp] theorem World.callSetPulseWidth_answers (id : Fin 8) (v : U16) (w : World) :
    (w.callSetPulseWidth id v).answers = w.answers := rfl

@[simp] theorem World.callDeliver_trace (k : CalFrame) (sel : Byte) (vals : CalVals) (w : World) :
    (w.callDeliver k sel vals).trace = w.trace ++ [.calEngineDeliver k sel vals] := rfl
@[simp] theorem World.callDeliver_callCount (k : CalFrame) (sel : Byte) (vals : CalVals) (w : World) :
    (w.callDeliver k sel vals).callCount = w.callCount + 1 := rfl
@[simp] theorem World.callDeliver_source (k : CalFrame) (sel : Byte) (vals : CalVals) (w : World) : (w.callDeliver k sel vals).source = w.source := rfl
@[simp] theorem World.callDeliver_radioListening (k : CalFrame) (sel : Byte) (vals : CalVals) (w : World) :
    (w.callDeliver k sel vals).radioListening = w.radioListening := rfl
@[simp] theorem World.callDeliver_radioHeld (k : CalFrame) (sel : Byte) (vals : CalVals) (w : World) :
    (w.callDeliver k sel vals).radioHeld = w.radioHeld := rfl
@[simp] theorem World.callDeliver_answers (k : CalFrame) (sel : Byte) (vals : CalVals) (w : World) :
    (w.callDeliver k sel vals).answers = w.answers := rfl

/-! A frame reaches the radio, and lists replaced: the trace and the mode stay. -/

@[simp] theorem World.hold_trace (B : FrameBytes) (w : World) : (w.hold B).trace = w.trace := rfl
@[simp] theorem World.hold_radioListening (B : FrameBytes) (w : World) :
    (w.hold B).radioListening = w.radioListening := rfl
@[simp] theorem World.hold_source (B : FrameBytes) (w : World) : (w.hold B).source = w.source := rfl
@[simp] theorem World.hold_radioHeld (B : FrameBytes) (w : World) : (w.hold B).radioHeld = w.radioHeld ++ [B] := rfl
@[simp] theorem World.hold_answers (B : FrameBytes) (w : World) : (w.hold B).answers = w.answers := rfl
@[simp] theorem World.hold_nextClock (B : FrameBytes) (w : World) : (w.hold B).nextClock = w.nextClock := rfl
@[simp] theorem World.leaveFrame_trace (B : FrameBytes) (w : World) : (w.leaveFrame B).trace = w.trace := rfl
@[simp] theorem World.leaveFrame_radioListening (B : FrameBytes) (w : World) :
    (w.leaveFrame B).radioListening = w.radioListening := rfl
@[simp] theorem World.leaveFrame_source (B : FrameBytes) (w : World) : (w.leaveFrame B).source = w.source := rfl
@[simp] theorem World.leaveFrame_nextClock (B : FrameBytes) (w : World) :
    (w.leaveFrame B).nextClock = w.nextClock := rfl
@[simp] theorem World.leaveFrame_answers (B : FrameBytes) (w : World) : (w.leaveFrame B).answers = w.answers := rfl
/-- A frame left with the radio is behind the others or lost (R70). -/
theorem World.leaveFrame_radioHeld (B : FrameBytes) (w : World) :
    leftWithRadio B w.radioHeld (w.leaveFrame B).radioHeld := by
  cases h : Config.freeKeep w.source w.leftCount <;> simp [leftWithRadio, World.leaveFrame, h]
/-- A radio that holds nothing has the frame ready for the poll. -/
theorem World.arriveFrame_empty {w : World} (h : w.radioHeld = []) (B : FrameBytes) : w.arriveFrame B = w.hold B := by
  unfold World.arriveFrame; rw [h]
/-- Where older frames are held the frame is left with them. -/
theorem World.arriveFrame_behind {w : World} (h : w.radioHeld ≠ []) (B : FrameBytes) :
    w.arriveFrame B = w.leaveFrame B := by
  unfold World.arriveFrame; split
  · exact absurd ‹_› h
  · rfl
@[simp] theorem World.arriveFrame_source (B : FrameBytes) (w : World) : (w.arriveFrame B).source = w.source := by
  unfold World.arriveFrame; split
  · rfl
  · simp
@[simp] theorem World.arriveFrame_nextClock (B : FrameBytes) (w : World) :
    (w.arriveFrame B).nextClock = w.nextClock := by
  unfold World.arriveFrame; split <;> simp
@[simp] theorem World.arriveFrame_answers (B : FrameBytes) (w : World) : (w.arriveFrame B).answers = w.answers := by
  unfold World.arriveFrame; split <;> simp
@[simp] theorem World.arriveFrame_trace (B : FrameBytes) (w : World) : (w.arriveFrame B).trace = w.trace := by
  unfold World.arriveFrame; split <;> simp
@[simp] theorem World.arriveFrame_radioListening (B : FrameBytes) (w : World) :
    (w.arriveFrame B).radioListening = w.radioListening := by
  unfold World.arriveFrame; split <;> simp
/-- The poll that follows one clock sample obtains the frame that reached an empty radio. -/
theorem World.hold_nextReceived {w : World} (h : w.radioHeld = []) (B : FrameBytes) :
    (w.hold B).callClock.nextReceived = some B :=
  World.nextReceived_held (w := (w.hold B).callClock) (B := B) (rest := []) (by simp [h])
@[simp] theorem World.setReceived_trace (l : List (Option FrameBytes)) (w : World) :
    (w.setReceived l).trace = w.trace := rfl
@[simp] theorem World.setReceived_source (l : List (Option FrameBytes)) (w : World) :
    (w.setReceived l).source = w.source := rfl
@[simp] theorem World.setReceived_radioListening (l : List (Option FrameBytes)) (w : World) :
    (w.setReceived l).radioListening = w.radioListening := rfl
/-- The poll that follows one clock sample obtains the one answer set. -/
@[simp] theorem World.setReceived_nextReceived (a : Option FrameBytes) (w : World) :
    (w.setReceived [a]).callClock.nextReceived = a := rfl

/-- Driving the actuators adds one call per command, in order (R191). -/
@[simp] theorem World.drive_trace (cs : List (Fin 8 × U16)) (w : World) :
    (w.drive cs).trace = w.trace ++ cs.map fun c => .actSetPulseWidth c.1 c.2 := by
  induction cs generalizing w with
  | nil => simp [World.drive]
  | cons c cs ih =>
    have h : w.drive (c :: cs) = (w.callSetPulseWidth c.1 c.2).drive cs := rfl
    rw [h, ih]
    simp

@[simp] theorem World.drive_radioListening (cs : List (Fin 8 × U16)) (w : World) :
    (w.drive cs).radioListening = w.radioListening := by
  induction cs generalizing w with
  | nil => rfl
  | cons c cs ih => exact ih (w.callSetPulseWidth c.1 c.2)

@[simp] theorem World.drive_source (cs : List (Fin 8 × U16)) (w : World) : (w.drive cs).source = w.source := by
  induction cs generalizing w with
  | nil => rfl
  | cons c cs ih => exact ih (w.callSetPulseWidth c.1 c.2)

@[simp] theorem World.drive_radioHeld (cs : List (Fin 8 × U16)) (w : World) : (w.drive cs).radioHeld = w.radioHeld := by
  induction cs generalizing w with
  | nil => rfl
  | cons c cs ih => exact ih (w.callSetPulseWidth c.1 c.2)

@[simp] theorem World.drive_answers (cs : List (Fin 8 × U16)) (w : World) : (w.drive cs).answers = w.answers := by
  induction cs generalizing w with
  | nil => rfl
  | cons c cs ih => exact ih (w.callSetPulseWidth c.1 c.2)

end Sys2Proof.Machine
end

