-- ==== Sys2Proof/Laws/Ops.lean ====
section
/-! SUPPORT. One specification for each shared operation: its registers, its calls, the mode it leaves the radio in, and
that it leaves the rest of the state alone. -/

namespace Sys2Proof.Machine

open Sys2Proof

/-! PROBE with a carrier-detect sample, TICK, FINISH. -/

@[simp] theorem State.probeCarrier_regs (s : State) : s.probeCarrier.regs = s.regs.probe s.world.nextCarrier := rfl
@[simp] theorem State.probeCarrier_params (s : State) : s.probeCarrier.params = s.params := rfl
@[simp] theorem State.probeCarrier_requests (s : State) : s.probeCarrier.requests = s.requests := rfl
@[simp] theorem State.probeCarrier_codecOut (s : State) : s.probeCarrier.codecOut = s.codecOut := rfl
@[simp] theorem State.probeCarrier_byCycle (s : State) : s.probeCarrier.byCycle = s.byCycle := rfl
@[simp] theorem State.probeCarrier_world (s : State) : s.probeCarrier.world = s.world.callCarrierDetected := rfl
@[simp] theorem State.tickAt_regs (t : Time) (s : State) : (s.tickAt t).regs = s.regs.tick s.params t := rfl
@[simp] theorem State.tickAt_params (t : Time) (s : State) : (s.tickAt t).params = s.params := rfl
@[simp] theorem State.tickAt_requests (t : Time) (s : State) : (s.tickAt t).requests = s.requests := rfl
@[simp] theorem State.tickAt_codecOut (t : Time) (s : State) : (s.tickAt t).codecOut = s.codecOut := rfl
@[simp] theorem State.tickAt_byCycle (t : Time) (s : State) : (s.tickAt t).byCycle = s.byCycle := rfl
@[simp] theorem State.tickAt_world (t : Time) (s : State) : (s.tickAt t).world = s.world := rfl

/-- FINISH probes with the carrier-detect sample if there is carrier sense, then ticks (R162). -/
@[simp] theorem State.finish_regs (t : Time) (s : State) :
    (s.finish t).regs = finishRegs s.params s.world.nextCarrier t s.regs := by
  unfold State.finish finishRegs; split <;> rfl
@[simp] theorem State.finish_params (t : Time) (s : State) : (s.finish t).params = s.params := by
  unfold State.finish; split <;> rfl
@[simp] theorem State.finish_requests (t : Time) (s : State) : (s.finish t).requests = s.requests := by
  unfold State.finish; split <;> rfl
@[simp] theorem State.finish_codecOut (t : Time) (s : State) : (s.finish t).codecOut = s.codecOut := by
  unfold State.finish; split <;> rfl
@[simp] theorem State.finish_byCycle (t : Time) (s : State) : (s.finish t).byCycle = s.byCycle := by
  unfold State.finish; split <;> rfl
@[simp] theorem State.finish_trace (t : Time) (s : State) :
    (s.finish t).world.trace = s.world.trace ++ finishCalls s.params s.world.nextCarrier := by
  unfold State.finish finishCalls; split <;> simp
@[simp] theorem State.finish_radioListening (t : Time) (s : State) :
    (s.finish t).world.radioListening = s.world.radioListening := by
  unfold State.finish; split <;> rfl
@[simp] theorem State.finish_clock (t : Time) (s : State) :
    (s.finish t).world.answers.clock = s.world.answers.clock := by
  unfold State.finish; split <;> rfl
@[simp] theorem State.finish_source (t : Time) (s : State) : (s.finish t).world.source = s.world.source := by
  unfold State.finish; split <;> rfl
@[simp] theorem State.finish_radioHeld (t : Time) (s : State) :
    (s.finish t).world.radioHeld = s.world.radioHeld := by
  unfold State.finish; split <;> rfl
@[simp] theorem State.finish_received (t : Time) (s : State) :
    (s.finish t).world.answers.received = s.world.answers.received := by
  unfold State.finish; split <;> rfl

/-! The estimator's registers after FINISH are the only ones it writes. -/

section
variable (p : Params) (cd : Bool) (t : Time) (r : Regs)

@[simp] theorem finishRegs_lsPhase : (finishRegs p cd t r).lsPhase = r.lsPhase := by
  unfold finishRegs; split <;> simp
@[simp] theorem finishRegs_lsLastTxTime : (finishRegs p cd t r).lsLastTxTime = r.lsLastTxTime := by
  unfold finishRegs; split <;> simp
@[simp] theorem finishRegs_lsLastRxTime : (finishRegs p cd t r).lsLastRxTime = r.lsLastRxTime := by
  unfold finishRegs; split <;> simp
@[simp] theorem finishRegs_lsLastLatency : (finishRegs p cd t r).lsLastLatency = r.lsLastLatency := by
  unfold finishRegs; split <;> simp
@[simp] theorem finishRegs_lsLastStatusTime : (finishRegs p cd t r).lsLastStatusTime = r.lsLastStatusTime := by
  unfold finishRegs; split <;> simp
@[simp] theorem finishRegs_lsReqDecision : (finishRegs p cd t r).lsReqDecision = r.lsReqDecision := by
  unfold finishRegs; split <;> simp
@[simp] theorem finishRegs_lsListenStart : (finishRegs p cd t r).lsListenStart = r.lsListenStart := by
  unfold finishRegs; split <;> simp
@[simp] theorem finishRegs_statGood : (finishRegs p cd t r).statGood = r.statGood := by
  unfold finishRegs; split <;> simp
@[simp] theorem finishRegs_statRating : (finishRegs p cd t r).statRating = r.statRating := by
  unfold finishRegs; split <;> simp
@[simp] theorem finishRegs_statBatt : (finishRegs p cd t r).statBatt = r.statBatt := by
  unfold finishRegs; split <;> simp

end

/-! The reply bracket. -/

section
variable (read : World → World) (f : Frame) (t : Time) (s : State)

@[simp] theorem State.replyWith_regs : (s.replyWith read f t).regs = s.regs.noteSend t := rfl
@[simp] theorem State.replyWith_params : (s.replyWith read f t).params = s.params := rfl
@[simp] theorem State.replyWith_requests : (s.replyWith read f t).requests = s.requests := rfl
@[simp] theorem State.replyWith_codecOut : (s.replyWith read f t).codecOut = s.codecOut := rfl
@[simp] theorem State.replyWith_byCycle : (s.replyWith read f t).byCycle = s.byCycle := rfl
@[simp] theorem State.replyWith_radioListening : (s.replyWith read f t).world.radioListening = true := rfl

end

/-- The calls of a status reply: the mode switches around the battery read and the send (R185, R188). -/
theorem State.replyStatus_calls (t : Time) (s : State) :
    addsCalls s (s.replyStatus t)
      (replyCalls s.params.types (.battRead (s.world.callSetListening false).nextBatt)
        (statusReply s.regs (s.world.callSetListening false).nextBatt)
        (s.world.callSetListening false).callBattRead.nextSendOk) := by
  simp [addsCalls, State.replyStatus, State.replyWith, replyCalls]

/-- The calls of a calibration reply (R187, R188). -/
theorem State.replyCalib_calls (kind : CalFrame) (sel : Sel3) (t : Time) (s : State) :
    addsCalls s (s.replyCalib kind sel t)
      (replyCalls s.params.types (.calRead sel ((s.world.callSetListening false).nextCal sel))
        (calibReply kind sel ((s.world.callSetListening false).nextCal sel))
        ((s.world.callSetListening false).callCalRead sel).nextSendOk) := by
  simp [addsCalls, State.replyCalib, State.replyWith, replyCalls]

/-- What a reply does: one frame in its bracket, with the time of the send; `read` is the call on the battery reader or
the calibration holder (R185, R187, R188). -/
structure RepliesWith (read : Event) (f : Frame) (t : Time) (s u : State) : Prop where
  regs    : u.regs = s.regs.noteSend t
  calls   : ∃ ok, addsCalls s u (replyCalls s.params.types read f ok)
  setting : sameSetting s u
  mode    : u.world.radioListening = true
  frames  : leavesRadioFrames s u
  source  : u.world.source = s.world.source

/-- The reply to a status request (R185). -/
theorem State.reply_status (sel : Sel3) (t : Time) (s : State) :
    ∃ v, RepliesWith (.battRead v) (statusReply s.regs v) t s (s.reply .status sel t) :=
  ⟨_, rfl, ⟨_, State.replyStatus_calls t s⟩, ⟨rfl, rfl, rfl, rfl⟩, rfl, ⟨rfl, rfl⟩, rfl⟩

/-- The reply to a calibration read (R187). -/
theorem State.reply_calibGet {sel : Sel3} (h : namesChannel sel) (t : Time) (s : State) :
    ∃ val, RepliesWith (.calRead sel val) (.calibGet (sel.setWidth 8) val) t s (s.reply .calibGet sel t) := by
  simp only [State.reply, if_pos h]
  exact ⟨_, rfl, ⟨_, State.replyCalib_calls .calibGet sel t s⟩, ⟨rfl, rfl, rfl, rfl⟩, rfl, ⟨rfl, rfl⟩, rfl⟩

/-- The reply to a calibration write: the stored values, and nothing is stored (R187). -/
theorem State.reply_calibSet {sel : Sel3} (h : namesChannel sel) (t : Time) (s : State) :
    ∃ val, RepliesWith (.calRead sel val) (.calibSet (sel.setWidth 8) val) t s (s.reply .calibSet sel t) := by
  simp only [State.reply, if_pos h]
  exact ⟨_, rfl, ⟨_, State.replyCalib_calls .calibSet sel t s⟩, ⟨rfl, rfl, rfl, rfl⟩, rfl, ⟨rfl, rfl⟩, rfl⟩

/-- A request for a channel that does not exist gets no reply (R186). -/
theorem State.reply_noChannel {request : Req} {sel : Sel3} (h : request = .none ∨ (request ≠ .status ∧ ¬ namesChannel sel))
    (t : Time) (s : State) : s.reply request sel t = s := by
  cases request <;> simp_all [State.reply]

/-- Everything a reply can do: nothing, or one frame after one read. -/
theorem State.reply_cases (request : Req) (sel : Sel3) (t : Time) (s : State) :
    s.reply request sel t = s ∨
    (∃ v f, RepliesWith (.battRead v) f t s (s.reply request sel t)) ∨
    (∃ v f, RepliesWith (.calRead sel v) f t s (s.reply request sel t)) := by
  cases request with
  | none => exact .inl rfl
  | status => exact .inr (.inl ((State.reply_status sel t s).imp fun _ h => ⟨_, h⟩))
  | calibGet =>
    by_cases h : namesChannel sel
    · exact .inr (.inr ((State.reply_calibGet h t s).imp fun _ h => ⟨_, h⟩))
    · exact .inl (State.reply_noChannel (.inr ⟨by simp, h⟩) t s)
  | calibSet =>
    by_cases h : namesChannel sel
    · exact .inr (.inr ((State.reply_calibSet h t s).imp fun _ h => ⟨_, h⟩))
    · exact .inl (State.reply_noChannel (.inr ⟨by simp, h⟩) t s)

/-! Forwarding to the actuators. -/

section
variable (pri : Primary) (aux : Auxiliary) (s : State)

@[simp] theorem State.forward_regs : (s.forward pri aux).regs = s.regs := by simp [State.forward]
@[simp] theorem State.forward_params : (s.forward pri aux).params = s.params := by simp [State.forward]
@[simp] theorem State.forward_requests : (s.forward pri aux).requests = s.requests := by simp [State.forward]
@[simp] theorem State.forward_codecOut : (s.forward pri aux).codecOut = s.codecOut := by simp [State.forward]
@[simp] theorem State.forward_byCycle : (s.forward pri aux).byCycle = s.byCycle := by simp [State.forward]
@[simp] theorem State.forward_trace :
    (s.forward pri aux).world.trace = s.world.trace ++ actuatorCalls s.params pri aux := by
  simp [State.forward, actuatorCalls]
@[simp] theorem State.forward_radioListening :
    (s.forward pri aux).world.radioListening = s.world.radioListening := by
  simp [State.forward]
@[simp] theorem State.forward_source : (s.forward pri aux).world.source = s.world.source := by
  simp [State.forward]
@[simp] theorem State.forward_radioHeld : (s.forward pri aux).world.radioHeld = s.world.radioHeld := by
  simp [State.forward]
@[simp] theorem State.forward_answers : (s.forward pri aux).world.answers = s.world.answers := by
  simp [State.forward]

end

/-! The end of a listen window. -/

section
variable (t : Time) (s : State)

/-- The sample FINISH probes with at the end of a listen window. -/
@[simp] theorem State.endCycle_regs :
    (s.endCycle t).regs =
      (finishRegs s.params (s.world.callSetListening false).nextCarrier t s.regs).endListen := by
  simp [State.endCycle]
@[simp] theorem State.endCycle_params : (s.endCycle t).params = s.params := by simp [State.endCycle]
@[simp] theorem State.endCycle_requests : (s.endCycle t).requests = s.requests := by simp [State.endCycle]
@[simp] theorem State.endCycle_codecOut : (s.endCycle t).codecOut = s.codecOut := by simp [State.endCycle]
@[simp] theorem State.endCycle_byCycle : (s.endCycle t).byCycle = s.byCycle := by simp [State.endCycle]
@[simp] theorem State.endCycle_trace :
    (s.endCycle t).world.trace = s.world.trace ++
      (.radioSetListening false :: finishCalls s.params (s.world.callSetListening false).nextCarrier) := by
  simp [State.endCycle]
@[simp] theorem State.endCycle_radioListening : (s.endCycle t).world.radioListening = false := by
  simp [State.endCycle]
@[simp] theorem State.endCycle_clock : (s.endCycle t).world.answers.clock = s.world.answers.clock := by
  simp [State.endCycle]
@[simp] theorem State.endCycle_source : (s.endCycle t).world.source = s.world.source := by
  simp [State.endCycle]
@[simp] theorem State.endCycle_radioHeld : (s.endCycle t).world.radioHeld = s.world.radioHeld := by
  simp [State.endCycle]
@[simp] theorem State.endCycle_received :
    (s.endCycle t).world.answers.received = s.world.answers.received := by
  simp [State.endCycle]

end

/-! PROCESS. -/

/-- The calls of PROCESS: a calibration frame is handed on, nothing else is (R160, R161). -/
def processCalls : Frame → List Event
  | .calibGet sel val => [.calEngineDeliver .calibGet sel val]
  | .calibSet sel val => [.calEngineDeliver .calibSet sel val]
  | .status _ _ _ => []
  | .control _ _ _ _ => []
  | .unknown => []

/-- The registers after PROCESS: a Status frame is held, nothing else changes one (R160, R161). -/
def processRegs (f : Frame) (t : Time) (r : Regs) : Regs :=
  match f with
  | .status good rating batt => r.holdStatus good rating batt t
  | .calibGet _ _ => r
  | .calibSet _ _ => r
  | .control _ _ _ _ => r
  | .unknown => r

section
variable (f : Frame) (t : Time) (s : State)

@[simp] theorem State.process_regs : (s.process f t).regs = processRegs f t s.regs := by cases f <;> rfl
@[simp] theorem State.process_params : (s.process f t).params = s.params := by cases f <;> rfl
@[simp] theorem State.process_requests : (s.process f t).requests = s.requests := by cases f <;> rfl
@[simp] theorem State.process_codecOut : (s.process f t).codecOut = s.codecOut := by cases f <;> rfl
@[simp] theorem State.process_byCycle : (s.process f t).byCycle = s.byCycle := by cases f <;> rfl
@[simp] theorem State.process_trace : (s.process f t).world.trace = s.world.trace ++ processCalls f := by
  cases f <;> simp [State.process, processCalls]
@[simp] theorem State.process_radioListening :
    (s.process f t).world.radioListening = s.world.radioListening := by cases f <;> rfl
@[simp] theorem State.process_answers : (s.process f t).world.answers = s.world.answers := by cases f <;> rfl
@[simp] theorem State.process_source : (s.process f t).world.source = s.world.source := by cases f <;> rfl
@[simp] theorem State.process_radioHeld : (s.process f t).world.radioHeld = s.world.radioHeld := by cases f <;> rfl

end

/-! LISTENSTEP, case by case. -/

/-- An expired window is not polled (R157). -/
theorem State.listenStep_expired {s : State} (h : s.regs.listenExpired s.params s.world.nextClock) :
    s.listenStep = (s.onWorld World.callClock).endCycle s.world.nextClock := by
  simp only [State.listenStep, if_pos h]

/-- A poll that finds no frame changes no register (R156 line 9). -/
theorem State.listenStep_none {s : State} (h : ¬ s.regs.listenExpired s.params s.world.nextClock)
    (hr : s.world.callClock.nextReceived = none) :
    s.listenStep = (s.onWorld World.callClock).onWorld World.callTryReceive := by
  simp only [State.listenStep, if_neg h, State.onWorld_world, hr]

/-- The first frame ends the window (R158, R159). -/
theorem State.listenStep_some {s : State} {B : FrameBytes} (h : ¬ s.regs.listenExpired s.params s.world.nextClock)
    (hr : s.world.callClock.nextReceived = some B) :
    s.listenStep = ((s.onWorld World.callClock).onWorld World.callTryReceive).arrive B s.world.nextClock := by
  simp only [State.listenStep, if_neg h, State.onWorld_world, hr]

/-! RXPOLL, case by case. -/

/-- A poll that finds no frame only ticks (R193). -/
theorem State.rxpollStep_none {s : State} (hr : s.world.callClock.nextReceived = none) :
    s.rxpollStep = ((s.onWorld World.callClock).onWorld World.callTryReceive).tickAt s.world.nextClock := by
  simp only [State.rxpollStep, State.onWorld_world, hr]

/-- A poll that finds a frame handles it, then ticks (R180). -/
theorem State.rxpollStep_some {s : State} {B : FrameBytes} (hr : s.world.callClock.nextReceived = some B) :
    s.rxpollStep = (((s.onWorld World.callClock).onWorld World.callTryReceive).handle B s.world.nextClock).tickAt
      s.world.nextClock := by
  simp only [State.rxpollStep, State.onWorld_world, hr]

/-! TXCYCLE, case by case. -/

/-- The state of a TXCYCLE after line 7 of R150: the decision stored, the frame sent, the time noted. -/
def State.txSent (pri : Primary) (aux : Auxiliary) (calKind : CalKind) (calSel : Sel3) (s : State) : State :=
  let t := s.world.nextClock
  let request := decideRequest s.params s.regs t calKind
  (((s.onWorld World.callClock).onRegs (Regs.setDecision request)).onWorld
    (World.callSend (encodeFrame s.params.types (controlFrame request pri aux calSel)))).onRegs (Regs.noteSend t)

/-- No request: the cycle finishes in the same step (R150 line 13). -/
theorem State.txcycleStep_none {pri aux calKind calSel} {s : State}
    (h : decideRequest s.params s.regs s.world.nextClock calKind = .none) :
    s.txcycleStep pri aux calKind calSel = (s.txSent pri aux calKind calSel).finish s.world.nextClock := by
  simp only [State.txcycleStep, if_pos h, State.txSent]

/-- A request opens the listen window (R150 lines 9 to 11, R155). -/
theorem State.txcycleStep_some {pri aux calKind calSel} {s : State}
    (h : decideRequest s.params s.regs s.world.nextClock calKind ≠ .none) :
    s.txcycleStep pri aux calKind calSel =
      ((s.txSent pri aux calKind calSel).onWorld (World.callSetListening true)).onRegs
        (Regs.openListen s.world.nextClock) := by
  simp only [State.txcycleStep, if_neg h, State.txSent]

end Sys2Proof.Machine
end

