-- ==== Sys2Proof/Laws/Codec.lean ====
section
/-! SUPPORT. The frame buffer and the codec: what a write leaves in each byte, what a read gives after a write, the flag
bytes, and DECODE case by case (spec/00_scope.md R11; spec/40_packet_codec.md). -/

namespace Sys2Proof

/-! Bytes of a frame buffer. -/

@[simp] theorem byteAt_zeroFrame (k : Nat) : byteAt zeroFrame k = 0#8 := by
  unfold byteAt zeroFrame
  rw [Vector.getElem?_replicate]
  split <;> rfl

/-- A one-byte write changes its byte and no other. -/
theorem byteAt_memWrite1 (B : FrameBytes) (off k : Nat) (v : Byte) (h : off < 16) :
    byteAt (memWrite1 off v B) k = if off = k then v else byteAt B k := by
  unfold byteAt memWrite1
  rw [Vector.getElem?_setIfInBounds]
  split <;> simp_all

/-- A two-byte write changes its two bytes, low byte first, and no other. -/
theorem byteAt_memWrite2 (B : FrameBytes) (off k : Nat) (v : U16) (h : off + 1 < 16) :
    byteAt (memWrite2 off v B) k =
      if off + 1 = k then v.extractLsb' 8 8 else if off = k then v.extractLsb' 0 8 else byteAt B k := by
  simp [memWrite2, byteAt_memWrite1, h, Nat.lt_of_succ_lt h]

/-- A four-byte write changes its four bytes and no other. -/
theorem byteAt_memWrite4 (B : FrameBytes) (off k : Nat) (v : BitVec 32) (h : off + 3 < 16)
    (hk : k < off ∨ off + 3 < k) : byteAt (memWrite4 off v B) k = byteAt B k := by
  have h1 : off + 2 + 1 < 16 := by omega
  have h2 : off + 1 < 16 := by omega
  simp only [memWrite4, byteAt_memWrite2 _ _ _ _ h1, byteAt_memWrite2 _ _ _ _ h2]
  repeat rw [if_neg (by omega)]

/-! The parts of a concatenation, and the two ways to put a value together again. -/

theorem append_low {n m : Nat} (a : BitVec n) (b : BitVec m) : (a ++ b).extractLsb' 0 m = b := by
  ext i hi
  rw [BitVec.getElem_extractLsb', BitVec.getLsbD_append, if_pos (by omega), Nat.zero_add,
    BitVec.getLsbD_eq_getElem hi]

theorem append_high {n m : Nat} (a : BitVec n) (b : BitVec m) : (a ++ b).extractLsb' m n = a := by
  ext i hi
  rw [BitVec.getElem_extractLsb', BitVec.getLsbD_append, if_neg (by omega), Nat.add_sub_cancel_left,
    BitVec.getLsbD_eq_getElem hi]

/-- The low byte of a 16-bit field is the byte at its offset (R61). -/
theorem memRead2_low (B : FrameBytes) (off : Nat) : (memRead2 B off).extractLsb' 0 8 = byteAt B off :=
  append_low _ _

/-- The high byte of a 16-bit field is the byte after it (R61). -/
theorem memRead2_high (B : FrameBytes) (off : Nat) : (memRead2 B off).extractLsb' 8 8 = byteAt B (off + 1) :=
  append_high _ _

theorem memRead4_low (B : FrameBytes) (off : Nat) : (memRead4 B off).extractLsb' 0 16 = memRead2 B off :=
  append_low _ _

theorem memRead4_high (B : FrameBytes) (off : Nat) : (memRead4 B off).extractLsb' 16 16 = memRead2 B (off + 2) :=
  append_high _ _

/-- Two frame buffers with the same sixteen bytes are equal. -/
theorem frameBytes_ext {B C : FrameBytes} (h : ∀ k, k ≤ 15 → byteAt B k = byteAt C k) : B = C := by
  apply Vector.ext
  intro i hi
  simpa [byteAt, hi] using h i (by omega)

theorem u16_bytes (v : U16) : v.extractLsb' 8 8 ++ v.extractLsb' 0 8 = v := by
  rw [BitVec.extractLsb'_append_extractLsb'_eq_extractLsb' (h := by rfl)]
  simp

theorem u32_halves (v : BitVec 32) : v.extractLsb' 16 16 ++ v.extractLsb' 0 16 = v := by
  rw [BitVec.extractLsb'_append_extractLsb'_eq_extractLsb' (h := by rfl)]
  simp

/-- A 16-bit field reads as the value written. -/
theorem memRead2_memWrite2 (B : FrameBytes) (off : Nat) (v : U16) (h : off + 1 < 16) :
    memRead2 (memWrite2 off v B) off = v := by
  simp [memRead2, memWrite2, byteAt_memWrite1, h, Nat.lt_of_succ_lt h, u16_bytes]

/-- A 16-bit field elsewhere reads as before. -/
theorem memRead2_memWrite2_other (B : FrameBytes) (off k : Nat) (v : U16) (h : off + 1 < 16)
    (hk : k + 1 < off ∨ off + 1 < k) : memRead2 (memWrite2 off v B) k = memRead2 B k := by
  simp only [memRead2, byteAt_memWrite2 _ _ _ _ h]
  repeat rw [if_neg (by omega)]

/-- A 16-bit field beside a one-byte write reads as before. -/
theorem memRead2_memWrite1 (B : FrameBytes) (off k : Nat) (v : Byte) (h : off < 16) (hk : k + 1 < off ∨ off < k) :
    memRead2 (memWrite1 off v B) k = memRead2 B k := by
  simp only [memRead2, byteAt_memWrite1 _ _ _ _ h]
  repeat rw [if_neg (by omega)]

/-- The 32-bit field reads as the value written. -/
theorem memRead4_memWrite4 (B : FrameBytes) (off : Nat) (v : BitVec 32) (h : off + 3 < 16) :
    memRead4 (memWrite4 off v B) off = v := by
  have h1 : off + 2 + 1 < 16 := by omega
  have h2 : off + 1 < 16 := by omega
  have a : memRead2 (memWrite4 off v B) (off + 2) = v.extractLsb' 16 16 := by
    simp only [memWrite4, memRead2_memWrite2 _ _ _ h1]
  have b : memRead2 (memWrite4 off v B) off = v.extractLsb' 0 16 := by
    rw [memWrite4, memRead2_memWrite2_other _ _ _ _ h1 (.inl (by omega)), memRead2_memWrite2 _ _ _ h2]
  rw [memRead4, a, b, u32_halves]

/-- `MemRead(B, off, 2) = B[off] + 256*B[off+1]` (R11, R92). -/
theorem memRead2_toNat (B : FrameBytes) (off : Nat) :
    (memRead2 B off).toNat = (byteAt B off).toNat + 256 * (byteAt B (off + 1)).toNat := by
  simp only [memRead2, BitVec.toNat_append]
  have h := (byteAt B off).isLt
  rw [Nat.shiftLeft_eq, Nat.mul_comm, ← Nat.two_pow_add_eq_or_of_lt h]
  omega

/-- The four bytes of the 32-bit field (R92). -/
theorem memRead4_toNat (B : FrameBytes) (off : Nat) :
    (memRead4 B off).toNat = (byteAt B off).toNat + 256 * (byteAt B (off + 1)).toNat +
      65536 * (byteAt B (off + 2)).toNat + 16777216 * (byteAt B (off + 3)).toNat := by
  simp only [memRead4, BitVec.toNat_append]
  have h := (memRead2 B off).isLt
  rw [Nat.shiftLeft_eq, Nat.mul_comm, ← Nat.two_pow_add_eq_or_of_lt h, memRead2_toNat, memRead2_toNat, Nat.add_assoc off 2 1]
  omega

/-! Flag bytes. -/

@[simp] theorem ctrlRequest_ctrlFlags (r : Req) (s : Sel3) : ctrlRequest (ctrlFlags r s) = r := by
  cases r <;> revert s <;> decide

@[simp] theorem ctrlSel_ctrlFlags (r : Req) (s : Sel3) : ctrlSel (ctrlFlags r s) = s := by
  cases r <;> revert s <;> decide

@[simp] theorem statGood_statFlags (g : Bool) : statGood (statFlags g) = g := by
  cases g <;> decide

/-- `CTRL_FLAGS = request + 4*sel` (R86). -/
theorem ctrlFlags_toNat (r : Req) (s : Sel3) : (ctrlFlags r s).toNat = Machine.reqNumber r + 4 * s.toNat := by
  cases r <;> revert s <;> decide

theorem statFlags_toNat (g : Bool) : (statFlags g).toNat = if g then 1 else 0 := by
  cases g <;> decide

theorem ctrlRequest_number (flags : Byte) : Machine.reqNumber (ctrlRequest flags) = flags.toNat % 4 := by
  revert flags; decide

theorem ctrlSel_toNat (flags : Byte) : (ctrlSel flags).toNat = flags.toNat / 4 % 8 := by
  revert flags; decide

theorem statGood_iff (flags : Byte) : statGood flags = true ↔ flags.toNat % 2 = 1 := by
  revert flags; decide

/-- A 16-bit field as a number. -/
theorem le16_eq (B : FrameBytes) (off : Nat) : Machine.le16 B off = (memRead2 B off).toNat :=
  (memRead2_toNat B off).symm

/-- The 32-bit field as a number. -/
theorem le32_eq (B : FrameBytes) (off : Nat) : Machine.le32 B off = (memRead4 B off).toNat := by
  rw [memRead4_toNat, Machine.le32, Machine.le16, Machine.le16, Nat.add_assoc off 2 1]
  omega

/-! DECODE, case by case on byte 0 (R118). -/

section
variable {ty : FrameTypes} {B : FrameBytes}

/-- The pairwise differences that DECODE and the frame rows rest on. -/
theorem FrameTypes.wf_ne (h : ty.wf) :
    (ty.control ≠ ty.unknown ∧ ty.status ≠ ty.unknown ∧ ty.calibGet ≠ ty.unknown ∧ ty.calibSet ≠ ty.unknown) ∧
    ty.status ≠ ty.control ∧ ty.calibGet ≠ ty.control ∧ ty.calibSet ≠ ty.control ∧ ty.calibGet ≠ ty.status ∧
    ty.calibSet ≠ ty.status ∧ ty.calibSet ≠ ty.calibGet := by
  simp only [FrameTypes.wf, FrameTypes.assigned, List.nodup_cons, List.mem_cons, List.not_mem_nil, or_false, not_or] at h
  obtain ⟨⟨a, b, c, d⟩, ⟨e, f, g⟩, ⟨x, y⟩, z, -⟩ := h
  exact ⟨⟨Ne.symm a, Ne.symm b, Ne.symm c, Ne.symm d⟩, Ne.symm e, Ne.symm f, Ne.symm g, Ne.symm x, Ne.symm y,
    Ne.symm z⟩

theorem decodeFrame_control (h : byteAt B 0 = ty.control) :
    decodeFrame ty B =
      .control (ctrlRequest (byteAt B 1)) (ctrlSel (byteAt B 1)) (getPrimary B) (getAuxiliary B) := if_pos h

theorem decodeFrame_status (hw : ty.wf) (h : byteAt B 0 = ty.status) :
    decodeFrame ty B = .status (statGood (byteAt B 1)) (byteAt B 2) (memRead4 B 3) := by
  have n := FrameTypes.wf_ne hw
  simp [decodeFrame, h, n]

theorem decodeFrame_calibGet (hw : ty.wf) (h : byteAt B 0 = ty.calibGet) :
    decodeFrame ty B = .calibGet (byteAt B 1) (getCalVals B) := by
  have n := FrameTypes.wf_ne hw
  simp [decodeFrame, h, n]

theorem decodeFrame_calibSet (hw : ty.wf) (h : byteAt B 0 = ty.calibSet) :
    decodeFrame ty B = .calibSet (byteAt B 1) (getCalVals B) := by
  have n := FrameTypes.wf_ne hw
  simp [decodeFrame, h, n]

theorem decodeFrame_unknown (h : ty.noLayout (byteAt B 0)) : decodeFrame ty B = .unknown := by
  rw [decodeFrame, if_neg h.1, if_neg h.2.1, if_neg h.2.2.1, if_neg h.2.2.2]

/-- The five cases of byte 0 (R81). -/
theorem typeByte_cases (ty : FrameTypes) (B : FrameBytes) :
    byteAt B 0 = ty.control ∨ byteAt B 0 = ty.status ∨ byteAt B 0 = ty.calibGet ∨ byteAt B 0 = ty.calibSet ∨
    ty.noLayout (byteAt B 0) := by
  tauto

/-- A frame decodes to a Status frame only under the Status type (R118). -/
theorem type_of_status {g : Bool} {r : Byte} {b : BattBits} (h : decodeFrame ty B = .status g r b) :
    byteAt B 0 = ty.status := by
  unfold decodeFrame at h
  split at h
  · cases h
  · split at h
    · assumption
    · split at h
      · cases h
      · split at h <;> cases h

/-- A frame decodes to a Control frame only under the Control type (R118). -/
theorem type_of_control {request : Req} {sel : Sel3} {pri : Primary} {aux : Auxiliary}
    (h : decodeFrame ty B = .control request sel pri aux) : byteAt B 0 = ty.control := by
  unfold decodeFrame at h
  split at h
  · assumption
  · split at h
    · cases h
    · split at h
      · cases h
      · split at h <;> cases h

end

/-! The six calibration values. -/

theorem getCalVals_putCalVals (val : CalVals) (B : FrameBytes) : getCalVals (putCalVals val B) = val := by
  simp [getCalVals, putCalVals, memRead2_memWrite2, memRead2_memWrite2_other]

theorem byteAt_putCalVals (val : CalVals) (B : FrameBytes) {k : Nat} (hk : k < 2 ∨ 13 < k) :
    byteAt (putCalVals val B) k = byteAt B k := by
  simp only [putCalVals]
  repeat rw [byteAt_memWrite2 _ _ _ _ (by decide), if_neg (by omega), if_neg (by omega)]

/-! Each frame variant decodes to itself. -/

section
variable {ty : FrameTypes}

theorem decodeFrame_encode_control (request : Req) (sel : Sel3) (pri : Primary) (aux : Auxiliary) :
    decodeFrame ty (encodeFrame ty (.control request sel pri aux)) = .control request sel pri aux := by
  rw [decodeFrame_control (by simp [encodeFrame, byteAt_memWrite1, byteAt_memWrite2])]
  simp [encodeFrame, byteAt_memWrite1, byteAt_memWrite2, getPrimary, getAuxiliary, memRead2_memWrite2,
    memRead2_memWrite2_other, memRead2_memWrite1]

theorem decodeFrame_encode_status (hw : ty.wf) (good : Bool) (rating : Byte) (batt : BattBits) :
    decodeFrame ty (encodeFrame ty (.status good rating batt)) = .status good rating batt := by
  rw [decodeFrame_status hw (by simp [encodeFrame, byteAt_memWrite1, byteAt_memWrite4])]
  simp [encodeFrame, byteAt_memWrite1, byteAt_memWrite4, memRead4_memWrite4]

theorem decodeFrame_encode_calibGet (hw : ty.wf) (sel : Byte) (val : CalVals) :
    decodeFrame ty (encodeFrame ty (.calibGet sel val)) = .calibGet sel val := by
  rw [decodeFrame_calibGet hw (by simp [encodeFrame, byteAt_putCalVals, byteAt_memWrite1])]
  simp [encodeFrame, byteAt_putCalVals, byteAt_memWrite1, getCalVals_putCalVals]

theorem decodeFrame_encode_calibSet (hw : ty.wf) (sel : Byte) (val : CalVals) :
    decodeFrame ty (encodeFrame ty (.calibSet sel val)) = .calibSet sel val := by
  rw [decodeFrame_calibSet hw (by simp [encodeFrame, byteAt_putCalVals, byteAt_memWrite1])]
  simp [encodeFrame, byteAt_putCalVals, byteAt_memWrite1, getCalVals_putCalVals]

theorem byteAt_encode_unknown (k : Nat) :
    byteAt (encodeFrame ty .unknown) k = if 0 = k then ty.unknown else 0#8 := by
  simp [encodeFrame, byteAt_memWrite1]

theorem decodeFrame_encode_unknown (hw : ty.wf) : decodeFrame ty (encodeFrame ty .unknown) = .unknown := by
  have n := (FrameTypes.wf_ne hw).1
  exact decodeFrame_unknown (by simpa [byteAt_encode_unknown, eq_comm] using n)

/-- A frame of an unassigned type decodes to `Unknown` (R95). -/
theorem decodeFrame_unassigned {type : Byte} (h : type ∉ ty.assigned) :
    decodeFrame ty (memWrite1 0 type zeroFrame) = .unknown := by
  simp only [FrameTypes.assigned, List.mem_cons, List.not_mem_nil, or_false, not_or] at h
  exact decodeFrame_unknown (by simpa [byteAt_memWrite1] using h.2)

end

end Sys2Proof
end

