-- ==== Sys2Proof/Laws/PerInstr.lean ====
section
/-! SUPPORT. The family RoundTrip: what the encoder writes for a well-formed instruction, the decoder reads back. -/

namespace Sys2Proof.Laws.RoundTrip

open Sys2Proof

/-- A well-formed instruction is decoded from what `encode` writes for it, whatever the type values. -/
def Statement (i : Instr) : Prop := ∀ ty : FrameTypes, ty.wf → i.wf ty = true → decode ty (encode ty i) = .ok i

theorem frameUnknown : Statement .frameUnknown := fun ty hw _ => by
  simp [decode, encode, decodeFrameRow, decodeFrame_encode_unknown hw, byteAt_encode_unknown]

theorem frameUnassigned (type : Byte) : Statement (.frameUnassigned type) := fun ty _ h => by
  have ha : type ∉ ty.assigned := by simpa [Instr.wf] using h
  have h0 : type ≠ ty.unknown := fun e => ha (by simp [FrameTypes.assigned, e])
  simp [decode, encode, decodeFrameRow, decodeFrame_unassigned ha, byteAt_memWrite1, h0]

theorem frameControl (request : Req) (sel : Sel3) (pri : Primary) (aux : Auxiliary) :
    Statement (.frameControl request sel pri aux) := fun _ _ _ => by
  simp [decode, encode, decodeFrameRow, decodeFrame_encode_control]

theorem frameStatus (good : Bool) (rating : Byte) (batt : BattBits) :
    Statement (.frameStatus good rating batt) := fun _ hw _ => by
  simp [decode, encode, decodeFrameRow, decodeFrame_encode_status hw]

theorem frameCalibGet (sel : Byte) (val : CalVals) : Statement (.frameCalibGet sel val) := fun _ hw _ => by
  simp [decode, encode, decodeFrameRow, decodeFrame_encode_calibGet hw]

theorem frameCalibSet (sel : Byte) (val : CalVals) : Statement (.frameCalibSet sel val) := fun _ hw _ => by
  simp [decode, encode, decodeFrameRow, decodeFrame_encode_calibSet hw]

theorem reqNone (sel : Sel3) : Statement (.reqNone sel) := fun _ _ _ => by
  simp [decode, encode, decodeCtrlFlags]

theorem reqStatus (sel : Sel3) : Statement (.reqStatus sel) := fun _ _ _ => by
  simp [decode, encode, decodeCtrlFlags]

theorem reqCalibGet (sel : Sel3) : Statement (.reqCalibGet sel) := fun _ _ _ => by
  simp [decode, encode, decodeCtrlFlags]

theorem reqCalibSet (sel : Sel3) : Statement (.reqCalibSet sel) := fun _ _ _ => by
  simp [decode, encode, decodeCtrlFlags]

theorem probe (cd : Bool) : Statement (.probe cd) := fun _ _ _ => rfl

theorem tick (now : Time) : Statement (.tick now) := fun _ _ _ => rfl

theorem txcycle (pri : Primary) (aux : Auxiliary) (calKind : CalKind) (calSel : Sel3) :
    Statement (.txcycle pri aux calKind calSel) := fun _ _ _ => rfl

theorem rxpoll : Statement .rxpoll := fun _ _ _ => rfl

theorem listenstep : Statement .listenstep := fun _ _ _ => rfl

theorem reset : Statement .reset := fun _ _ _ => rfl

theorem codecEncode (f : Frame) : Statement (.codecEncode f) := fun _ _ _ => rfl

theorem codecDecode (bytes : FrameBytes) : Statement (.codecDecode bytes) := fun _ _ _ => rfl

theorem cycle (pri : Primary) (aux : Auxiliary) (calKind : CalKind) (calSel : Sel3) :
    Statement (.cycle pri aux calKind calSel) := fun _ _ _ => rfl

end Sys2Proof.Laws.RoundTrip
end

