-- ==== Sys2Proof/Laws/Steps.lean ====
section
/-! SUPPORT. The steps as a whole: what `exec` answers where a step is enabled, what each step leaves alone, the two
cases of a received frame, and the algebra of the calls a step adds to the trace. -/

namespace Sys2Proof.Machine

open Sys2Proof

/-! Where a step is enabled, `exec` answers its next state. -/

theorem next_inj {s t : State} (h : (Host.Outcome.next s : Host.Outcome State Fault Refusal) = .next t) : s = t := by
  injection h

/-- Everything `guarded` can answer: a next state exactly where the operation is enabled and the radio rests. -/
theorem State.guarded_next {enabled : Prop} [Decidable enabled] {t s u : State} :
    s.guarded enabled t = .next u ↔ enabled ∧ s.radioRests ∧ t = u := by
  unfold State.guarded
  split
  · rename_i h
    split
    · rename_i hm; exact ⟨fun e => ⟨h, hm, next_inj e⟩, fun e => by rw [e.2.2]⟩
    · rename_i hm; exact ⟨fun e => (nomatch e), fun e => absurd e.2.1 hm⟩
  · rename_i h; exact ⟨fun e => (nomatch e), fun e => absurd e.1 h⟩

theorem State.guarded_ready {enabled : Prop} [Decidable enabled] {t s : State} (h : enabled) (hm : s.radioRests) :
    s.guarded enabled t = .next t := State.guarded_next.2 ⟨h, hm, rfl⟩

theorem State.guarded_notEnabled {enabled : Prop} [Decidable enabled] {t s : State} (h : ¬ enabled) :
    s.guarded enabled t = .refused .notEnabled := if_neg h

theorem State.guarded_notResting {enabled : Prop} [Decidable enabled] {t s : State} (h : enabled)
    (hm : ¬ s.radioRests) : s.guarded enabled t = .refused .radioNotResting := by
  rw [State.guarded, if_pos h, if_neg hm]

theorem exec_probe_idle {s : State} (h : s.regs.lsPhase = .idle) (cd : Bool) :
    exec (.probe cd) s = .next (s.onRegs (Regs.probe cd)) := if_pos h

theorem exec_tick_idle {s : State} (h : s.regs.lsPhase = .idle) (now : Time) :
    exec (.tick now) s = .next (s.tickAt now) := if_pos h

theorem exec_txcycle_ready {s : State} (h : s.txReady) (hm : s.radioRests) (pri : Primary) (aux : Auxiliary)
    (kind : CalKind) (sel : Sel3) :
    exec (.txcycle pri aux kind sel) s = .next ((s.txcycleStep pri aux kind sel).begunBy false) :=
  State.guarded_ready h hm

theorem exec_listenstep_listening {s : State} (h : s.txListening) : exec .listenstep s = .next s.listenStep := by
  simp [exec, execListenstep, h.1, h.2]

theorem exec_rxpoll_ready {s : State} (h : s.rxReady) (hm : s.radioRests) : exec .rxpoll s = .next s.rxpollStep :=
  State.guarded_ready h hm

/-- At a transmitter in `IDLE` the resting mode is the transmitting mode. -/
theorem State.txRests {s : State} (hr : s.params.role = .tx) (hm : s.world.radioListening = false) : s.radioRests := by
  simp [State.radioRests, hr, hm]

/-- At a receiver the resting mode is the listening mode. -/
theorem State.rxRests {s : State} (hr : s.params.role = .rx) (hm : s.world.radioListening = true) : s.radioRests := by
  simp [State.radioRests, hr, hm]

/-- A frame row is what `frameAtRadio` does with its bytes. -/
theorem exec_frame {i : Instr} {B : FrameBytes} {s : State} (h : encode s.params.types i = .frame B) :
    exec i s = frameAtRadio B s := by
  cases i <;> simp [encode] at h <;> subst h <;> rfl

/-- A frame at a receiver is the poll of the radio it has reached (log 7). -/
theorem frameAtRadio_receiver {s : State} (h : s.rxReady) (hm : s.radioRests) (B : FrameBytes) :
    frameAtRadio B s = .next (s.onWorld (World.arriveFrame B)).rxpollStep := by
  simp only [frameAtRadio, h.1]
  exact State.guarded_ready h hm

/-- A frame at a transmitter inside its window is the poll of the radio it has reached (log 7). -/
theorem frameAtRadio_listening {s : State} (h : s.txListening)
    (he : ¬ s.regs.listenExpired s.params s.world.nextClock) (B : FrameBytes) :
    frameAtRadio B s = .next (s.onWorld (World.arriveFrame B)).listenStep := by
  simp only [frameAtRadio, h.1, h.2, if_neg he]

/-- A frame left with the radio has joined what it holds, or is lost, and nothing else has changed (R70). -/
theorem frameJoins_leaveFrame (B : FrameBytes) (s : State) : frameJoins B s (s.onWorld (World.leaveFrame B)) :=
  ⟨rfl, ⟨rfl, rfl, rfl, rfl⟩, by simp, by simp, by simp, World.leaveFrame_radioHeld B s.world⟩

/-- What the host's act on the radio can do: in `IDLE` the radio is in the resting mode, and nothing else has changed
(R231, R233). -/
theorem State.restoreRadio_next {s t : State} (h : s.restoreRadio = .next t) :
    s.regs.lsPhase = .idle ∧ t = s.onWorld fun w => { w with radioListening := restingMode s.params.role } := by
  unfold State.restoreRadio at h
  split at h
  · exact ⟨‹_›, (next_inj h).symm⟩
  · cases h

/-! The request decision. -/

theorem decideRequest_due {p : Params} {r : Regs} {t : Time} {kind : CalKind} (h : r.fetchDue p t) :
    decideRequest p r t kind = match kind with | .get => .calibGet | .set => .calibSet | .noCal => .status := if_pos h

theorem decideRequest_notDue {p : Params} {r : Regs} {t : Time} {kind : CalKind} (h : ¬ r.fetchDue p t) :
    decideRequest p r t kind = .none := if_neg h

/-! A received frame. -/

/-- A frame whose type is not Status is no Status frame (R118). -/
theorem decodeFrame_ne_status {ty : FrameTypes} {B : FrameBytes} (h : byteAt B 0 ≠ ty.status) (g : Bool) (r : Byte)
    (b : BattBits) : decodeFrame ty B ≠ .status g r b := fun e => h (type_of_status e)

/-- A frame whose type is not Control is no Control frame (R118). -/
theorem decodeFrame_ne_control {ty : FrameTypes} {B : FrameBytes} (h : byteAt B 0 ≠ ty.control) (request : Req)
    (sel : Sel3) (pri : Primary) (aux : Auxiliary) : decodeFrame ty B ≠ .control request sel pri aux :=
  fun e => h (type_of_control e)

theorem State.handle_control {s : State} {B : FrameBytes} {request : Req} {sel : Sel3} {pri : Primary}
    {aux : Auxiliary} (h : decodeFrame s.params.types B = .control request sel pri aux) (t : Time) :
    s.handle B t = (((s.onRegs (Regs.noteReceive t)).probeCarrier).reply request sel t).forward pri aux := by
  unfold State.handle; simp only [h]

theorem State.handle_other {s : State} {B : FrameBytes}
    (h : ∀ request sel pri aux, decodeFrame s.params.types B ≠ .control request sel pri aux) (t : Time) :
    s.handle B t = (s.onRegs (Regs.noteReceive t)).probeCarrier := by
  unfold State.handle; dsimp only
  split <;> first | rfl | exact absurd ‹_› (h _ _ _ _)

/-- Only a Status frame changes a register in PROCESS (R160, R161). -/
theorem processRegs_other {f : Frame} {t : Time} {r : Regs} (h : ∀ g q b, f ≠ .status g q b) :
    processRegs f t r = r := by
  cases f <;> simp_all [processRegs]

theorem processRegs_latency (f : Frame) (t : Time) (r : Regs) :
    (processRegs f t r).lsLastLatency = r.lsLastLatency := by cases f <;> rfl

/-! What the steps leave alone. -/

theorem State.listenStep_params (s : State) : s.listenStep.params = s.params := by
  unfold State.listenStep; dsimp only; split
  · simp
  · split <;> simp [State.arrive]

/-- A LISTENSTEP uses one clock sample (R156). -/
theorem State.listenStep_clock (s : State) : s.listenStep.world.answers.clock = s.world.answers.clock.tail := by
  unfold State.listenStep; dsimp only; split
  · simp
  · split <;> simp [State.arrive]

theorem State.txcycleStep_params (pri : Primary) (aux : Auxiliary) (kind : CalKind) (sel : Sel3) (s : State) :
    (s.txcycleStep pri aux kind sel).params = s.params := by
  unfold State.txcycleStep; dsimp only; split <;> simp

theorem State.reply_params (request : Req) (sel : Sel3) (t : Time) (s : State) :
    (s.reply request sel t).params = s.params := by
  rcases State.reply_cases request sel t s with e | ⟨_, _, e⟩ | ⟨_, _, e⟩
  · rw [e]
  · exact e.setting.1
  · exact e.setting.1

theorem State.handle_params (s : State) (B : FrameBytes) (t : Time) : (s.handle B t).params = s.params := by
  unfold State.handle; dsimp only; split <;> simp [State.reply_params]

theorem State.rxpollStep_params (s : State) : s.rxpollStep.params = s.params := by
  unfold State.rxpollStep; dsimp only; split <;> simp [State.handle_params]

/-! Operands. -/

theorem clampU_toNat {n : Nat} (v lo hi : BitVec n) (h : lo.toNat ≤ hi.toNat) :
    (clampU v lo hi).toNat = max lo.toNat (min hi.toNat v.toNat) := by
  unfold clampU; split
  · omega
  · split <;> omega

/-- A channel selector in the selector byte of a calibration frame. -/
theorem sel_setWidth (sel : Sel3) : sel.setWidth 8 = BitVec.ofNat 8 sel.toNat := by revert sel; decide

/-! Runs of calls. -/

/-- The radio's mode after a run of calls. -/
def modeAfterAll : Bool → List Event → Bool
  | mode, [] => mode
  | mode, e :: rest => modeAfterAll (e.modeAfter mode) rest

theorem modeAfterAll_append (a b : List Event) :
    ∀ mode, modeAfterAll mode (a ++ b) = modeAfterAll (modeAfterAll mode a) b := by
  induction a with
  | nil => exact fun _ => rfl
  | cons e a ih => exact fun _ => ih _

theorem halfDuplex_append (a b : List Event) :
    ∀ mode, halfDuplex mode (a ++ b) = (halfDuplex mode a && halfDuplex (modeAfterAll mode a) b) := by
  induction a with
  | nil => exact fun _ => by simp [halfDuplex, modeAfterAll]
  | cons e a ih => exact fun _ => by simp [halfDuplex, modeAfterAll, ih, Bool.and_assoc]

theorem receivedFrames_append (a b : List Event) : receivedFrames (a ++ b) = receivedFrames a ++ receivedFrames b := by
  simp [receivedFrames]

theorem launchedFrames_append (a b : List Event) :
    launchedFrames (a ++ b) = launchedFrames a ++ launchedFrames b := by
  simp [launchedFrames]

/-- What reached the link is a subsequence of what was handed to `Radio.send` (R68, R206). -/
theorem launchedFrames_sublist (trace : List Event) : (launchedFrames trace).Sublist (sentFrames trace) := by
  induction trace with
  | nil => exact .slnil
  | cons e trace ih =>
    cases e with
    | radioSend B ok =>
      cases ok
      · exact ih.cons _
      · exact ih.cons_cons _
    | clockNow | radioTryReceive | radioSetListening | radioCarrierDetected | battRead | calRead | actSetPulseWidth
      | calEngineDeliver => exact ih

theorem sentFrames_append (a b : List Event) : sentFrames (a ++ b) = sentFrames a ++ sentFrames b := by
  simp [sentFrames]

/-- What the calls of FINISH are not: no frame, no mode switch, no actuator. -/
theorem finishCalls_quiet (p : Params) (cd mode : Bool) :
    modeAfterAll mode (finishCalls p cd) = mode ∧ halfDuplex mode (finishCalls p cd) = true ∧
    receivedFrames (finishCalls p cd) = [] ∧ sentFrames (finishCalls p cd) = [] ∧
    (finishCalls p cd).any Event.isActuator = false := by
  unfold finishCalls; split <;> exact ⟨rfl, rfl, rfl, rfl, rfl⟩

/-- What the calls of PROCESS are not. -/
theorem processCalls_quiet (f : Frame) (mode : Bool) :
    modeAfterAll mode (processCalls f) = mode ∧ halfDuplex mode (processCalls f) = true ∧
    receivedFrames (processCalls f) = [] ∧ sentFrames (processCalls f) = [] ∧
    (processCalls f).any Event.isActuator = false := by
  cases f <;> exact ⟨rfl, rfl, rfl, rfl, rfl⟩

/-- The actuator calls exchange no frame and switch no mode. -/
theorem actuatorCalls_quiet (p : Params) (pri : Primary) (aux : Auxiliary) (mode : Bool) :
    modeAfterAll mode (actuatorCalls p pri aux) = mode ∧ halfDuplex mode (actuatorCalls p pri aux) = true ∧
    receivedFrames (actuatorCalls p pri aux) = [] ∧ sentFrames (actuatorCalls p pri aux) = [] :=
  ⟨rfl, rfl, rfl, rfl⟩

end Sys2Proof.Machine
end

