-- ==== Sys2Proof/Tests/Slice0.lean ====
section
/-! SUPPORT. The model's own tests, with expected results from spec/95_test_vectors.md (the vector's name stands in each
comment), the smoke test of WellFormed, and for every statement with hypotheses a witness that meets them. -/

namespace Sys2Proof.Tests

open Sys2Proof Sys2Proof.Machine

/-! ## Helpers -/

/-- The next state of an outcome, if it is one. -/
def nextState (o : Host.Outcome State Fault Refusal) : Option State :=
  match o with
  | .next s => some s
  | .fault _ => none
  | .refused _ => none

/-- The registers after an outcome. -/
def regsAfter (o : Host.Outcome State Fault Refusal) : Option Regs := (nextState o).map (·.regs)

/-- The calls of an outcome that began with an empty trace. -/
def callsAfter (o : Host.Outcome State Fault Refusal) : Option (List Event) := (nextState o).map (·.world.trace)

/-- The outcome refuses because the operation is not enabled. -/
def isNotEnabled (o : Host.Outcome State Fault Refusal) : Bool :=
  match o with
  | .refused .notEnabled => true
  | .refused _ => false
  | .next _ => false
  | .fault _ => false

/-- An endpoint of this role with these registers and answers. -/
def endpointAt (role : Role) (r : Regs) (a : Answers) : State :=
  { State.resetWith (Params.default role) with
    regs := r
    world := { (State.resetWith (Params.default role)).world with
      radioListening := decide (role = .rx ∨ r.lsPhase = .listen), answers := a } }

def txAt (r : Regs) (a : Answers) : State := endpointAt .tx r a
def rxAt (r : Regs) (a : Answers) : State := endpointAt .rx r a

/-- The type values of R81. -/
def ty0 : FrameTypes := FrameTypes.default

/-- The channel values of the vectors. -/
def pri0 : Primary := ⟨1500, 1500, 1000, 1500, 2000⟩
def aux0 : Auxiliary := ⟨0, 255, 128⟩
/-- The calibration values of the vectors (S5). -/
def cal0 : CalVals := ⟨685, 1145, 1647, 1000, 1500, 2000⟩

def v1 : FrameBytes := #v[1, 1, 0xDC, 5, 0xDC, 5, 0xE8, 3, 0xDC, 5, 0xD0, 7, 0, 0xFF, 0x80, 0]
def v2 : FrameBytes := #v[1, 0, 0xDC, 5, 0xDC, 5, 0xE8, 3, 0xDC, 5, 0xD0, 7, 0, 0xFF, 0x80, 0]
def v8 : FrameBytes := #v[2, 1, 0x3E, 0xCD, 0xCC, 0xEC, 0x40, 0, 0, 0, 0, 0, 0, 0, 0, 0]
def v12 : FrameBytes := #v[3, 2, 0xAD, 2, 0x79, 4, 0x6F, 6, 0xE8, 3, 0xDC, 5, 0xD0, 7, 0, 0]
def v13 : FrameBytes := #v[4, 2, 0xAD, 2, 0x79, 4, 0x6F, 6, 0xE8, 3, 0xDC, 5, 0xD0, 7, 0, 0]
def v18 : FrameBytes := #v[1, 0xE1, 0xDC, 5, 0xDC, 5, 0xE8, 3, 0xDC, 5, 0xD0, 7, 0, 0xFF, 0x80, 0xAA]
def v19 : FrameBytes := #v[2, 0xFF, 0x3E, 0xCD, 0xCC, 0xEC, 0x40, 0x55, 0x55, 0x55, 0x55, 0x55, 0x55, 0x55, 0x55, 0x55]
def v20 : FrameBytes := #v[0xFF, 1, 0xDC, 5, 0xDC, 5, 0xE8, 3, 0xDC, 5, 0xD0, 7, 0, 0xFF, 0x80, 0]
/-- The frame of X2. -/
def x2 : FrameBytes := #v[1, 0x0A, 0x60, 9, 0xDC, 5, 0, 0, 0xDC, 5, 0xE7, 3, 0, 0xFF, 0x80, 0]
/-- The frame of X3. -/
def x3 : FrameBytes := #v[1, 0x17, 0xDC, 5, 0xDC, 5, 0xE8, 3, 0xDC, 5, 0xD0, 7, 0, 0xFF, 0x80, 0]
/-- The frame of X4. -/
def x4 : FrameBytes := #v[1, 0x1A, 0xDC, 5, 0xDC, 5, 0xE8, 3, 0xDC, 5, 0xD0, 7, 0, 0xFF, 0x80, 0]

/-- A transmitter as in T1, its clock answering `now`. -/
def txT1 (now : Time) : State :=
  txAt { Regs.reset with lsLastStatusTime := 1007 }
    { Answers.none with clock := [now], sendOk := [true], carrier := [true] }

/-- A transmitter whose window began at `start` with a status request sent, its clock answering `now`. -/
def txWindow (start now : Time) (received : List (Option FrameBytes)) : State :=
  txAt { Regs.reset with lsPhase := .listen, lsReqDecision := .status, lsListenStart := start, lsLastTxTime := start }
    { Answers.none with clock := [now], received := received, carrier := [true] }

/-- A receiver at reset as in X1 to X10, its clock answering 100. -/
def rxX (received : List (Option FrameBytes)) : State :=
  rxAt Regs.reset { Answers.none with
    clock := [100], received := received, carrier := [true], batt := [0x40ECCCCD], cal := [cal0], sendOk := [true] }

/-- A state whose radio holds a frame already. -/
def holding (B : FrameBytes) (s : State) : State := s.onWorld (World.hold B)

/-- A state whose radio is in this mode. -/
def radioMode (listening : Bool) (s : State) : State := s.onWorld fun w => { w with radioListening := listening }

/-- The eight actuator calls of X1. -/
def actX1 : List Event :=
  [.actSetPulseWidth 0 1500, .actSetPulseWidth 1 1500, .actSetPulseWidth 2 1000, .actSetPulseWidth 3 1500,
   .actSetPulseWidth 4 2000, .actSetPulseWidth 5 0, .actSetPulseWidth 6 255, .actSetPulseWidth 7 128]

/-! ## WellFormed -/

/-- The one check: an unassigned type is none of the assigned ones. -/
theorem test_wf_refuses_assigned_type : (Instr.frameUnassigned 4).wf ty0 = false := by decide
/-- Type values that are not pairwise distinct, a window of no samples, an empty clamp range, a rating past 8 bits. -/
theorem test_wf_refuses_parameters :
    ¬ FrameTypes.wf ⟨0, 1, 2, 3, 3⟩ ∧ ¬ Params.wf { Params.default .tx with tSamples := 0 } ∧
    ¬ Params.wf { Params.default .rx with actPriMin := 2001 } ∧ ¬ Params.wf { Params.default .rx with ratingHalf := 128 } ∧
    Params.wf { Params.default .rx with ratingHalf := 127 } := by decide
theorem test_wf_takes_first_unassigned_type : (Instr.frameUnassigned 5).wf ty0 = true := by decide

/-! ## Decoding, words written out from spec/30_encoding.md -/

/-- V21. -/
theorem test_decode_unknown : decodeBytes ty0 .frame [0, 1, 0xDC, 5, 0xDC, 5, 0xE8, 3, 0xDC, 5, 0xD0, 7, 0, 0xFF, 0x80, 0] =
    .ok .frameUnknown := by decide
/-- V20. -/
theorem test_decode_unassigned : decodeBytes ty0 .frame v20.toList = .ok (.frameUnassigned 255) := by decide
/-- V5. -/
theorem test_decode_control :
    decodeBytes ty0 .frame [1, 0x17, 0, 0, 1, 0, 0, 1, 0xFF, 0xFF, 0x34, 0x12, 1, 2, 3, 0] =
      .ok (.frameControl .calibSet 5 ⟨0, 1, 256, 65535, 4660⟩ ⟨1, 2, 3⟩) := by decide
/-- V18: reserved bits and padding are ignored. -/
theorem test_decode_control_reserved : decodeFrame ty0 v18 = .control .status 0 pri0 aux0 := by decide
/-- V11. -/
theorem test_decode_status :
    decodeBytes ty0 .frame [2, 0, 0x21, 1, 0, 0xC0, 0x7F, 0, 0, 0, 0, 0, 0, 0, 0, 0] =
      .ok (.frameStatus false 33 0x7FC00001) := by decide
/-- V19. -/
theorem test_decode_status_reserved : decodeFrame ty0 v19 = .status true 62 0x40ECCCCD := by decide
/-- V23. -/
theorem test_decode_calibGet :
    decodeBytes ty0 .frame [3, 9, 1, 0, 2, 0, 3, 0, 4, 0, 5, 0, 6, 0, 0xDE, 0xAD] =
      .ok (.frameCalibGet 9 ⟨1, 2, 3, 4, 5, 6⟩) := by decide
/-- V16. -/
theorem test_decode_calibSet :
    decodeBytes ty0 .frame [4, 0, 0x78, 0, 0xF4, 1, 0x84, 3, 0xD0, 7, 0xDC, 5, 0xE8, 3, 0, 0] =
      .ok (.frameCalibSet 0 ⟨120, 500, 900, 2000, 1500, 1000⟩) := by decide
/-- R86, R88: request in bits 1:0, selector in bits 4:2, bits 7:5 ignored. -/
theorem test_decode_requests :
    decodeBytes ty0 .ctrlFlags [0b00010100] = .ok (.reqNone 5) ∧ decodeBytes ty0 .ctrlFlags [0b00000001] = .ok (.reqStatus 0) ∧
    decodeBytes ty0 .ctrlFlags [0b00011110] = .ok (.reqCalibGet 7) ∧
    decodeBytes ty0 .ctrlFlags [0b11100111] = .ok (.reqCalibSet 1) := by decide
/-- R98: the request lines. -/
theorem test_decode_opreq :
    decode ty0 (.opreq 0b0001 { OperandInputs.zero with cd := true }) = .ok (.probe true) ∧
    decode ty0 (.opreq 0b0010 { OperandInputs.zero with now := 500 }) = .ok (.tick 500) ∧
    decode ty0 (.opreq 0b0100 { OperandInputs.zero with pri := pri0, aux := aux0, calKind := .set, calSel := 5 }) =
      .ok (.txcycle pri0 aux0 .set 5) ∧
    decode ty0 (.opreq 0b1000 OperandInputs.zero) = .ok .rxpoll ∧
    decode ty0 (.opreq 0b0000 OperandInputs.zero) = .ok .listenstep := by decide
/-- Q3. -/
theorem test_decode_several_lines : decodeBytes ty0 .opreq [0b0011] = .error (.severalLines 0b0011) := by decide
/-- The RESET line, and the rows without an encoding. -/
theorem test_decode_others :
    decode ty0 .resetLine = .ok .reset ∧ decode ty0 (.evalEncode .unknown) = .ok (.codecEncode .unknown) ∧
    decode ty0 (.evalDecode v8) = .ok (.codecDecode v8) ∧
    decode ty0 (.pseudoCycle { OperandInputs.zero with pri := pri0, aux := aux0, calKind := .get, calSel := 2 }) =
      .ok (.cycle pri0 aux0 .get 2) := by decide
/-- A frame of 15 bytes is none (R60). -/
theorem test_decode_wrong_length :
    decodeBytes ty0 .frame (v1.toList.take 15) = .error (.wrongLength 15) := by decide
/-- Table words: V8 as a number, the byte `CTRL_FLAGS` 0x1E, and the request lines. -/
theorem test_decode_table_words :
    decodeTableWord 128 0x40ECCCCD3E0102 = some (.frameStatus true 62 0x40ECCCCD) ∧
    decodeTableWord 8 0x1E = some (.reqCalibGet 7) ∧ decodeTableWord 4 2 = some (.tick 0) ∧
    decodeTableWord 8 8 = some .rxpoll := by decide

/-- An instance with other type values (U2): V1 with byte 0 as this instance has it, and type 1 is unassigned there. -/
theorem test_decode_other_types :
    decodeBytes ⟨10, 11, 12, 13, 14⟩ .frame [11, 1, 0xDC, 5, 0xDC, 5, 0xE8, 3, 0xDC, 5, 0xD0, 7, 0, 0xFF, 0x80, 0] =
      .ok (.frameControl .status 0 pri0 aux0) ∧
    decodeBytes ⟨10, 11, 12, 13, 14⟩ .frame v1.toList = .ok (.frameUnassigned 1) := by decide

/-! ## Encoding -/

/-- V6, V10, V14: every field at its maximum. -/
theorem test_encode_maxima :
    encodeFrame ty0 (.control .calibSet 7 ⟨65535, 65535, 65535, 65535, 65535⟩ ⟨255, 255, 255⟩) =
      #v[1, 0x1F, 0xFF, 0xFF, 0xFF, 0xFF, 0xFF, 0xFF, 0xFF, 0xFF, 0xFF, 0xFF, 0xFF, 0xFF, 0xFF, 0] ∧
    encodeFrame ty0 (.status true 255 0xFFFFFFFF) = #v[2, 1, 0xFF, 0xFF, 0xFF, 0xFF, 0xFF, 0, 0, 0, 0, 0, 0, 0, 0, 0] ∧
    encodeFrame ty0 (.calibSet 255 ⟨65535, 65535, 65535, 65535, 65535, 65535⟩) =
      #v[4, 0xFF, 0xFF, 0xFF, 0xFF, 0xFF, 0xFF, 0xFF, 0xFF, 0xFF, 0xFF, 0xFF, 0xFF, 0xFF, 0, 0] := by decide
/-- V1, V8, V12, V17. -/
theorem test_encode_vectors :
    encodeFrame ty0 (.control .status 0 pri0 aux0) = v1 ∧ encodeFrame ty0 (.status true 62 0x40ECCCCD) = v8 ∧
    encodeFrame ty0 (.calibGet 2 cal0) = v12 ∧ encodeFrame ty0 .unknown = Vector.replicate 16 0 := by decide

/-! ## PROBE and TICK -/

/-- E24: both counters saturate, each on its own. -/
theorem test_probe_saturates :
    regsAfter (exec (.probe true) (txAt { Regs.reset with sqGood := 65535, sqWeak := 65534 } Answers.none)) =
      some { Regs.reset with sqGood := 65535, sqWeak := 65534 } ∧
    regsAfter (exec (.probe false) (rxAt { Regs.reset with sqGood := 65535, sqWeak := 65534 } Answers.none)) =
      some { Regs.reset with sqGood := 65535, sqWeak := 65535 } := by decide
/-- Q2: not during a listen window. -/
theorem test_probe_refused_in_window : isNotEnabled (exec (.probe true) (txWindow 1000 1003 [])) = true := by decide
/-- E1, E12, E17: rating and majority. -/
theorem test_tick_closes :
    regsAfter (exec (.tick 500) (txAt { Regs.reset with sqGood := 180, sqWeak := 20 } Answers.none)) =
      some { Regs.reset with sqWinStart := 500, sqRating := 62, sqGoodMajority := true } ∧
    regsAfter (exec (.tick 500) (txAt { Regs.reset with sqGood := 100, sqWeak := 100 } Answers.none)) =
      some { Regs.reset with sqWinStart := 500, sqRating := 49, sqGoodMajority := false } ∧
    regsAfter (exec (.tick 500) (txAt { Regs.reset with sqGood := 1, sqWeak := 32 } Answers.none)) =
      some { Regs.reset with sqWinStart := 500, sqRating := 6, sqGoodMajority := false } := by decide
/-- E25: the elapsed time across the wrap of the clock, 261 and 512. -/
theorem test_tick_across_wrap :
    regsAfter (exec (.tick 5) (txAt { Regs.reset with sqWinStart := 0xFFFFFF00 } Answers.none)) =
      some { Regs.reset with sqWinStart := 0xFFFFFF00 } ∧
    regsAfter (exec (.tick 0x100) (txAt { Regs.reset with sqWinStart := 0xFFFFFF00 } Answers.none)) =
      some { Regs.reset with sqWinStart := 0x100 } := by decide

/-! ## TXCYCLE, LISTENSTEP, CYCLE -/

/-- T1, second case: elapsed 501 opens the window. -/
theorem test_txcycle_opens_window :
    regsAfter (exec (.txcycle pri0 aux0 .noCal 0) (txT1 1508)) =
      some { Regs.reset with
        lsLastStatusTime := 1007, lsReqDecision := .status, lsLastTxTime := 1508, lsListenStart := 1508,
        lsPhase := .listen } ∧
    callsAfter (exec (.txcycle pri0 aux0 .noCal 0) (txT1 1508)) =
      some [.clockNow 1508, .radioSend v1 true, .radioSetListening true] := by decide
/-- T1, first case: elapsed 500 is not above 500; a calibration request waits (T2). -/
theorem test_txcycle_finishes :
    callsAfter (exec (.txcycle pri0 aux0 .set 5) (txT1 1507)) =
      some [.clockNow 1507, .radioSend v2 true, .radioCarrierDetected true] := by decide
/-- T3, T4: at the deadline the radio is not polled, although a Status frame is waiting. -/
theorem test_listenstep_deadline :
    callsAfter (exec .listenstep (txWindow 1000 1020 [some v8])) =
      some [.clockNow 1020, .radioSetListening false, .radioCarrierDetected true] := by decide
/-- T5. -/
theorem test_listenstep_status :
    regsAfter (exec .listenstep (txWindow 1000 1007 [some v8])) =
      some { Regs.reset with
        lsReqDecision := .status, lsListenStart := 1000, lsLastTxTime := 1000, lsLastRxTime := 1007, lsLastLatency := 7,
        statGood := true, statRating := 62, statBatt := 0x40ECCCCD, lsLastStatusTime := 1007,
        sqRating := 33, sqGoodMajority := true, sqWinStart := 1007 } := by decide
/-- P1, its first cycle: the window's answers are none and then V8. -/
theorem test_cycle_ends :
    (regsAfter (exec (.cycle pri0 aux0 .noCal 0) (txAt Regs.reset { Answers.none with
        clock := [1000, 1003, 1007, 1027], received := [none, some v8], sendOk := [true], carrier := [true] }))).map
      (fun r => (r.lsPhase, r.lsLastLatency, r.lsLastTxTime, r.statRating)) = some (.idle, 7, 1000, 62) := by decide
/-- P2, its first cycle: the window expires. -/
theorem test_cycle_expires :
    callsAfter (exec (.cycle pri0 aux0 .noCal 0) (txAt Regs.reset { Answers.none with
        clock := [2000, 2010, 2020], received := [none], sendOk := [true], carrier := [false] })) =
      some [.clockNow 2000, .radioSend v1 true, .radioSetListening true, .clockNow 2010, .radioTryReceive none,
        .clockNow 2020, .radioSetListening false, .radioCarrierDetected false] := by decide

/-! ## RXPOLL, requests -/

/-- X2: a calibration read with clamping. -/
theorem test_rxpoll_calibration :
    callsAfter (exec .rxpoll (rxX [some x2])) =
      some [.clockNow 100, .radioTryReceive (some x2), .radioCarrierDetected true, .radioSetListening false,
        .calRead 2 cal0, .radioSend v12 true, .radioSetListening true,
        .actSetPulseWidth 0 2000, .actSetPulseWidth 1 1500, .actSetPulseWidth 2 1000, .actSetPulseWidth 3 1500,
        .actSetPulseWidth 4 1000, .actSetPulseWidth 5 0, .actSetPulseWidth 6 255, .actSetPulseWidth 7 128] := by decide
/-- X8: the reply carries the last closed window, then the step's TICK closes the running one. -/
theorem test_rxpoll_status :
    regsAfter (exec .rxpoll (rxAt { Regs.reset with sqRating := 10, sqGood := 150 } { Answers.none with
        clock := [700], received := [some v1], carrier := [true], batt := [0], sendOk := [true] })) =
      some { Regs.reset with
        sqRating := 57, sqGoodMajority := true, sqWinStart := 700, lsLastRxTime := 700, lsLastTxTime := 700 } ∧
    ((callsAfter (exec .rxpoll (rxAt { Regs.reset with sqRating := 10, sqGood := 150 } { Answers.none with
        clock := [700], received := [some v1], carrier := [true], batt := [0], sendOk := [true] }))).map sentFrames) =
      some [#v[2, 0, 0x0A, 0, 0, 0, 0, 0, 0, 0, 0, 0, 0, 0, 0, 0]] := by decide
/-- R185 to R187, log 8: the four codes at a receiver; selector 6 gets no reply (X4). -/
theorem test_requests_at_receiver :
    callsAfter (exec (.reqNone 0) (rxX [])) = some [.clockNow 100] ∧
    (callsAfter (exec (.reqStatus 7) (rxX []))).map sentFrames =
      some [#v[2, 0, 0, 0xCD, 0xCC, 0xEC, 0x40, 0, 0, 0, 0, 0, 0, 0, 0, 0]] ∧
    (callsAfter (exec (.reqCalibGet 2) (rxX []))).map sentFrames = some [v12] ∧
    (callsAfter (exec (.reqCalibSet 2) (rxX []))).map sentFrames = some [v13] ∧
    callsAfter (exec (.reqCalibGet 6) (rxX [])) = some [.clockNow 100] := by decide
/-- R95, log 8: a transmitter discards them. -/
theorem test_requests_at_transmitter : regsAfter (exec (.reqStatus 0) (txT1 1508)) = some (txT1 1508).regs := by decide

/-! ## Frames, codec, RESET, step -/

/-- X5: a frame of an unassigned type at a receiver. -/
theorem test_frame_unassigned_at_receiver :
    callsAfter (exec (.frameUnassigned 255) (rxX [])) =
      some [.clockNow 100, .radioTryReceive (some (memWrite1 0 255 zeroFrame)), .radioCarrierDetected true] := by decide
/-- X10: a Control frame without a request at a receiver. -/
theorem test_frame_control_at_receiver :
    callsAfter (exec (.frameControl .none 0 pri0 aux0) (rxX [])) =
      some ([.clockNow 100, .radioTryReceive (some v2), .radioCarrierDetected true] ++ actX1) := by decide
/-- T10: a Control frame in a listen window. -/
theorem test_frame_control_at_transmitter :
    (regsAfter (exec (.frameControl .status 0 pri0 aux0) (txWindow 1000 1007 []))).map
      (fun r => (r.lsPhase, r.lsLastLatency, r.statRating)) = some (.idle, 7, 0) := by decide
/-- T6: a rating out of range is held as received. -/
theorem test_frame_status_at_transmitter :
    (regsAfter (exec (.frameStatus true 255 0xFFFFFFFF) (txWindow 1000 1007 []))).map
      (fun r => (r.statGood, r.statRating, r.statBatt)) = some (true, 255, 0xFFFFFFFF) := by decide
/-- T9: calibration frames in a listen window are handed on, whatever was asked. -/
theorem test_frame_calibration_at_transmitter :
    callsAfter (exec (.frameCalibSet 2 cal0) (txWindow 1000 1007 [])) =
      some [.clockNow 1007, .radioTryReceive (some v13), .calEngineDeliver .calibSet 2 cal0, .radioSetListening false,
        .radioCarrierDetected true] ∧
    callsAfter (exec (.frameCalibGet 2 cal0) (txWindow 1000 1007 [])) =
      some [.clockNow 1007, .radioTryReceive (some v12), .calEngineDeliver .calibGet 2 cal0, .radioSetListening false,
        .radioCarrierDetected true] := by decide
/-- T7: an `Unknown` frame ends the window. -/
theorem test_frame_unknown_at_transmitter :
    (regsAfter (exec .frameUnknown (txWindow 3000 3005 []))).map
      (fun r => (r.lsPhase, r.lsLastRxTime, r.lsLastLatency, r.lsLastStatusTime)) = some (.idle, 3005, 5, 0) := by decide
/-- V1 and V19, evaluated by the host. -/
theorem test_codec_evaluation :
    (nextState (exec (.codecEncode (.control .status 0 pri0 aux0)) State.reset)).map (·.codecOut) =
      some (some (.encoded v1)) ∧
    (nextState (exec (.codecDecode v19) State.reset)).map (·.codecOut) =
      some (some (.decoded (.status true 62 0x40ECCCCD))) := by decide
/-- Q5: RESET inside a window leaves the radio listening. -/
theorem test_reset_in_window :
    (nextState (exec .reset (txWindow 1000 1007 []))).map (fun s => (s.regs, s.world.radioListening, s.world.trace)) =
      some (Regs.reset, true, []) := by decide
/-- R231, R233, U19: TXCYCLE after a RESET inside a window is refused, and enabled again once the host has put the radio
back. -/
theorem test_radio_out_of_mode :
    (match exec (.txcycle pri0 aux0 .noCal 0) (radioMode true (txT1 1508)) with
      | .refused .radioNotResting => true
      | _ => false) = true ∧
    (nextState (step { radioMode true (txT1 1508) with requests := [.restoreRadio] })).map
      (fun s => (s.world.radioListening, s.world.trace, s.requests)) = some (false, [], []) := by decide
/-- R103: a CYCLE whose window is still open blocks the host; the block takes a LISTENSTEP and the TICK stays lined up. -/
theorem test_host_waits :
    (nextState (step { txWindow 1000 1007 [some v8] with
        byCycle := true, requests := [.opreq 0b0010 OperandInputs.zero] })).map
      (fun s => (s.regs.lsPhase, s.regs.statRating, s.requests)) =
      some (.idle, 62, [.opreq 0b0010 OperandInputs.zero]) := by decide
/-- R68, R208: of two frames at the radio the older one is obtained first. -/
theorem test_oldest_frame_first :
    (callsAfter (exec (.frameStatus true 62 0x40ECCCCD) (holding v12 (txWindow 1000 1007 [])))).map receivedFrames =
      some [v12] ∧
    (callsAfter (exec .rxpoll (holding v1 (rxX [some v8])))).map receivedFrames = some [v1] := by decide
/-- Q1: TXCYCLE is refused at a receiver. -/
theorem test_step_refuses_txcycle_at_receiver :
    isNotEnabled (step { rxX [] with requests := [.opreq 0b0100 OperandInputs.zero] }) = true := by decide
/-- A table word runs as the first instruction after reset. -/
theorem test_step_withFetchWord :
    regsAfter (step (State.reset.withFetchWord 4 1)) = some { Regs.reset with sqWeak := 1 } := by decide

/-! ## Witnesses: states and operands that meet the hypotheses of the statements, each clause of its own -/

theorem witness_ControlFrameLayout : v1 = encodeFrame ty0 (.control .status 0 pri0 aux0) := by decide
theorem witness_StatusFrameLayout : v8 = encodeFrame ty0 (.status true 62 0x40ECCCCD) ∧ 7 ≤ 15 ∧ 15 ≤ 15 := by decide
theorem witness_CalibrationFrameLayout :
    v12 = encodeFrame ty0 (.calibGet 2 cal0) ∧ v13 = encodeFrame ty0 (.calibSet 2 cal0) := by decide
theorem witness_UnknownFrameIsZero : ty0 = FrameTypes.default ∧ 1 ≤ 15 ∧ 15 ≤ 15 := ⟨rfl, by decide⟩
theorem witness_TypeByteSelectsVariant : ty0.wf ∧ ty0 = FrameTypes.default ∧ FrameTypes.wf ⟨10, 11, 12, 13, 14⟩ := by decide
theorem witness_ControlFrameDecoding : byteAt v18 0 = ty0.control ∧ hasType ty0 v18 ty0.control 1 :=
  ⟨by decide, .inr ⟨rfl, by decide⟩⟩
theorem witness_StatusAndCalibrationDecoding :
    ty0.wf ∧ hasType ty0 v19 ty0.status 2 ∧ hasType ty0 v12 ty0.calibGet 3 ∧ hasType ty0 v13 ty0.calibSet 4 :=
  ⟨by decide, .inr ⟨rfl, by decide⟩, .inl (by decide), .inl (by decide)⟩
theorem witness_FrameRoundTrip : ty0.wf := by decide
/-- A byte 0 for each clause. -/
theorem witness_EncodeAfterDecodeOnCanonicalBytesOnly :
    ty0.wf ∧ byteAt v1 0 = ty0.control ∧ byteAt v8 0 = ty0.status ∧ byteAt v12 0 = ty0.calibGet ∧
    byteAt v13 0 = ty0.calibSet ∧ ty0.noLayout (byteAt v20 0) := by decide
/-- Two different buffers for each type: their padding or their reserved bits differ. -/
theorem witness_PaddingAndReservedBitsIgnored_control :
    ty0.wf ∧ v18 ≠ v1 ∧ byteAt v18 0 = byteAt v1 0 ∧ byteAt v18 0 = ty0.control ∧
    (byteAt v18 1).toNat % 32 = (byteAt v1 1).toNat % 32 ∧ ∀ k, 2 ≤ k → k ≤ 14 → byteAt v18 k = byteAt v1 k := by
  refine ⟨by decide, by decide, by decide, by decide, by decide, fun k h1 h2 => ?_⟩
  interval_cases k <;> decide
theorem witness_PaddingAndReservedBitsIgnored_status :
    ty0.wf ∧ v19 ≠ v8 ∧ byteAt v19 0 = byteAt v8 0 ∧ byteAt v19 0 = ty0.status ∧
    (byteAt v19 1).toNat % 2 = (byteAt v8 1).toNat % 2 ∧ ∀ k, 2 ≤ k → k ≤ 6 → byteAt v19 k = byteAt v8 k := by
  refine ⟨by decide, by decide, by decide, by decide, by decide, fun k h1 h2 => ?_⟩
  interval_cases k <;> decide
theorem witness_PaddingAndReservedBitsIgnored_calibration :
    ty0.wf ∧ memWrite1 15 7 v12 ≠ v12 ∧ byteAt (memWrite1 15 7 v12) 0 = byteAt v12 0 ∧
    byteAt (memWrite1 15 7 v12) 0 = ty0.calibGet ∧
    ∀ k, 1 ≤ k → k ≤ 13 → byteAt (memWrite1 15 7 v12) k = byteAt v12 k := by
  refine ⟨by decide, by decide, by decide, by decide, fun k h1 h2 => ?_⟩
  interval_cases k <;> decide
theorem witness_FrameBufferReadsAndWrites :
    15 + 1 ≤ 16 ∧ 14 ≠ 15 ∧ 14 + 2 ≤ 16 ∧ (13 < 14 ∨ 14 + 2 ≤ 13) ∧ 12 + 4 ≤ 16 ∧ (11 < 12 ∨ 12 + 4 ≤ 11) := by decide
theorem witness_PresentedInstructionRoundTrip :
    ty0.wf ∧ (Instr.frameUnassigned 5).wf ty0 = true ∧ Instr.rxpoll.wf ty0 = true := by decide
theorem witness_SeveralRequestLinesRefused :
    (0b0011#4).toNat ∉ [0, 1, 2, 4, 8] ∧
    { State.reset with requests := [.opreq 0b0011 OperandInputs.zero] }.presented = .opreq 0b0011 OperandInputs.zero ∧
    ¬ { State.reset with requests := [.opreq 0b0011 OperandInputs.zero] }.hostWaits := by
  decide
theorem witness_StepRunsDecodedInstruction :
    ¬ { State.reset with requests := [.resetLine] }.hostWaits ∧
    decode ty0 { State.reset with requests := [.resetLine] }.presented = .ok .reset ∧
    { State.reset with requests := [.resetLine] }.requests = .resetLine :: [] ∧ State.reset.requests = [] := by decide
/-- A CYCLE in its window with a TICK request waiting, and the same request in `IDLE`. -/
theorem witness_HostWaitsForTheCycle :
    ∃ s : State, s.requests = .opreq 0b0010 OperandInputs.zero :: [] ∧ (0b0010#4) ≠ 0#4 ∧ s.params.role = .tx ∧
      s.regs.lsPhase = .listen ∧ s.byCycle = true ∧ State.reset.regs.lsPhase = .idle ∧
      decode State.reset.params.types (.opreq 0b0010 OperandInputs.zero) = .ok (.tick 0) :=
  ⟨{ txWindow 1000 1007 [] with byCycle := true, requests := [.opreq 0b0010 OperandInputs.zero] }, by decide⟩
theorem witness_OperationNotEnabledIsRefused :
    (txWindow 1000 1007 []).regs.lsPhase = .listen ∧ (rxX []).params.role = .rx ∧ (txT1 1508).params.role = .tx := by
  decide
theorem witness_ProbeCountsOneSample : State.reset.regs.lsPhase = .idle := by decide
/-- The window one millisecond short of its length, and exactly at it; with and without probes. -/
theorem witness_TickClosesWindowOrChangesNothing :
    State.reset.regs.lsPhase = .idle ∧ 0 < State.reset.params.tSamples ∧ 33 = State.reset.params.ratingHalf ∧
    2 * 33 ≤ 255 ∧ 0 = State.reset.regs.sqGood.toNat ∧
    0 = State.reset.regs.sqWeak.toNat ∧ (499#32 - State.reset.regs.sqWinStart).toNat < State.reset.params.wMs ∧
    State.reset.params.wMs ≤ (500#32 - State.reset.regs.sqWinStart).toNat ∧ 0 + 0 = 0 ∧
    (txAt { Regs.reset with sqGood := 1 } Answers.none).params.wMs ≤
      (500#32 - (txAt { Regs.reset with sqGood := 1 } Answers.none).regs.sqWinStart).toNat ∧
    1 = (txAt { Regs.reset with sqGood := 1 } Answers.none).regs.sqGood.toNat ∧ 0 < 1 + 0 := by decide
theorem witness_RatingComponentsAndRange :
    200 = 180 + 20 ∧ 0 < 200 ∧ 33 = (Params.default .tx).ratingHalf ∧ 2 * 33 ≤ 255 ∧ 0 < 33 ∧
    (Params.default .tx).tSamples = 200 ∧ 0 = 0 + 0 := by decide
/-- Both cases, at the boundary of the comparison (T1). -/
theorem witness_TxcycleSendsAndOpensOrFinishes :
    ((txT1 1508).params.role = .tx ∧ (txT1 1508).regs.lsPhase = .idle ∧
      (txT1 1508).world.radioListening = false ∧ 1508 = (txT1 1508).world.nextClock ∧
      (txT1 1508).params.fetchIntervalMs < (1508#32 - (txT1 1508).regs.lsLastStatusTime).toNat) ∧
    ((txT1 1507).params.role = .tx ∧ (txT1 1507).regs.lsPhase = .idle ∧
      (txT1 1507).world.radioListening = false ∧ 1507 = (txT1 1507).world.nextClock ∧
      (1507#32 - (txT1 1507).regs.lsLastStatusTime).toNat ≤ (txT1 1507).params.fetchIntervalMs) := by decide
theorem witness_FinishProbesThenTicks :
    State.reset.params.hasCarrierSense = true ∧
    (State.resetWith { Params.default .tx with hasCarrierSense := false }).params.hasCarrierSense = false := by decide
theorem witness_ExpiredWindowEndsWithoutPolling :
    (txWindow 1000 1020 []).params.role = .tx ∧ (txWindow 1000 1020 []).regs.lsPhase = .listen ∧
    1020 = (txWindow 1000 1020 []).world.nextClock ∧
    (txWindow 1000 1020 []).params.listenDurationMs ≤ (1020#32 - (txWindow 1000 1020 []).regs.lsListenStart).toNat := by
  decide
theorem witness_PollWithoutFrameKeepsListening :
    (txWindow 1000 1019 [none]).params.role = .tx ∧ (txWindow 1000 1019 [none]).regs.lsPhase = .listen ∧
    1019 = (txWindow 1000 1019 [none]).world.nextClock ∧
    (1019#32 - (txWindow 1000 1019 [none]).regs.lsListenStart).toNat <
      (txWindow 1000 1019 [none]).params.listenDurationMs ∧
    (txWindow 1000 1019 [none]).world.callClock.nextReceived = none := by decide
theorem witness_StatusReplyIsHeld :
    (txWindow 1000 1019 [some v8]).params.role = .tx ∧ (txWindow 1000 1019 [some v8]).regs.lsPhase = .listen ∧
    1019 = (txWindow 1000 1019 [some v8]).world.nextClock ∧
    (1019#32 - (txWindow 1000 1019 [some v8]).regs.lsListenStart).toNat <
      (txWindow 1000 1019 [some v8]).params.listenDurationMs ∧
    (txWindow 1000 1019 [some v8]).world.callClock.nextReceived = some v8 ∧
    decodeFrame ty0 v8 = .status true 62 0x40ECCCCD := by decide
/-- One witness for each of the four other variants. -/
theorem witness_OtherRepliesAreHandedOnOrDiscarded :
    (∀ B ∈ [v12, v13, v1, v20], ∀ good rating batt, decodeFrame ty0 B ≠ .status good rating batt) ∧ ∀ B : FrameBytes,
      (txWindow 1000 1019 [some B]).params.types = ty0 ∧
      (txWindow 1000 1019 [some B]).params.role = .tx ∧ (txWindow 1000 1019 [some B]).regs.lsPhase = .listen ∧
      1019 = (txWindow 1000 1019 [some B]).world.nextClock ∧
      (1019#32 - (txWindow 1000 1019 [some B]).regs.lsListenStart).toNat <
        (txWindow 1000 1019 [some B]).params.listenDurationMs ∧
      (txWindow 1000 1019 [some B]).world.callClock.nextReceived = some B :=
  ⟨fun B h => decodeFrame_ne_status (by fin_cases h <;> decide),
    fun _ => ⟨rfl, rfl, rfl, rfl, (by decide : (1019#32 - 1000#32).toNat < 20), rfl⟩⟩
/-- The invariant of a transmitter inside a window. -/
theorem txWindow_inv (start now : Time) (received : List (Option FrameBytes)) : Inv (txWindow start now received) :=
  { params := (by decide : (Params.default .tx).wf)
    rating := (by decide : (0#8).toNat ≤ 2 * 33)
    receiver := fun h => nomatch (h : Role.tx = Role.rx)
    listening := fun _ => ⟨(by decide : Req.status ≠ Req.none), rfl⟩
    latency := .inl rfl }
theorem witness_LatencyBelowListenDuration :
    Inv (txWindow 1000 1019 [some v8]) ∧ (txWindow 1000 1019 [some v8]).params.role = .tx ∧
    (txWindow 1000 1019 [some v8]).regs.lsPhase = .listen ∧
    ((txWindow 1000 1019 [some v8]).world.nextClock - (txWindow 1000 1019 [some v8]).regs.lsListenStart).toNat <
      (txWindow 1000 1019 [some v8]).params.listenDurationMs ∧
    (txWindow 1000 1019 [some v8]).world.callClock.nextReceived = some v8 :=
  ⟨txWindow_inv .., by decide⟩
theorem witness_NoRequestInIdleDoesNothing :
    (rxX []).regs.lsPhase = .idle ∧ (rxX []).presented = .opreq 0#4 OperandInputs.zero := by decide
theorem witness_CycleIsTxcycleThenListensteps :
    (txT1 1508).params.role = .tx ∧ (txT1 1508).regs.lsPhase = .idle ∧ (txT1 1508).world.radioListening = false ∧
    (rxX []).params.role = .rx ∧ (txWindow 1000 1007 []).regs.lsPhase = .listen := by decide
theorem witness_CycleEndsOnceTheClockPassesTheBound :
    ∃ s : State, s.params.role = .tx ∧ s.regs.lsPhase = .idle ∧ s.world.radioListening = false ∧
      s.world.answers.clock = 2000 :: [2010, 2020] ∧
      ∃ c ∈ [2010, 2020#32], s.params.listenDurationMs ≤ (c - 2000#32).toNat :=
  ⟨txAt Regs.reset { Answers.none with clock := [2000, 2010, 2020] }, by decide, by decide, by decide, by decide, 2020, by decide⟩
theorem witness_PollWithoutFrameOnlyTicks :
    (rxX [none]).params.role = .rx ∧ (rxX [none]).regs.lsPhase = .idle ∧
    (rxX [none]).world.radioListening = true ∧ 100 = (rxX [none]).world.nextClock ∧
    (rxX [none]).world.callClock.nextReceived = none := by decide
theorem witness_PollIgnoresAllButControl :
    (∀ B ∈ [v8, v12, v13, v20], byteAt B 0 ≠ ty0.control) ∧ ∀ B : FrameBytes,
      (rxX [some B]).params.types = ty0 ∧ (rxX [some B]).params.role = .rx ∧ (rxX [some B]).regs.lsPhase = .idle ∧
      (rxX [some B]).world.radioListening = true ∧ 100 = (rxX [some B]).world.nextClock ∧
      (rxX [some B]).world.callClock.nextReceived = some B :=
  ⟨fun B h => by fin_cases h <;> decide, fun _ => ⟨rfl, rfl, rfl, rfl, rfl, rfl⟩⟩
theorem witness_StatusRequestIsAnswered :
    (rxX [some v1]).params.role = .rx ∧ (rxX [some v1]).regs.lsPhase = .idle ∧
    (rxX [some v1]).world.radioListening = true ∧ 100 = (rxX [some v1]).world.nextClock ∧
    (rxX [some v1]).world.callClock.nextReceived = some v1 ∧ decodeFrame ty0 v1 = .control .status 0 pri0 aux0 := by decide
/-- Both request codes; channel 5 is the last one. -/
theorem witness_CalibrationRequestIsAnswered :
    (rxX [some x3]).params.role = .rx ∧ (rxX [some x3]).regs.lsPhase = .idle ∧
    (rxX [some x3]).world.radioListening = true ∧ 100 = (rxX [some x3]).world.nextClock ∧
    (rxX [some x3]).world.callClock.nextReceived = some x3 ∧ decodeFrame ty0 x3 = .control .calibSet 5 pri0 aux0 ∧
    (5#3).toNat ≤ 5 ∧ (rxX [some x2]).world.callClock.nextReceived = some x2 ∧
    decodeFrame ty0 x2 = .control .calibGet 2 ⟨2400, 1500, 0, 1500, 999⟩ aux0 := by decide
/-- No request, and a request for channel 6. -/
theorem witness_RequestsWithoutReply :
    (rxX [some v2]).params.role = .rx ∧ (rxX [some v2]).regs.lsPhase = .idle ∧
    (rxX [some v2]).world.radioListening = true ∧ 100 = (rxX [some v2]).world.nextClock ∧
    (rxX [some v2]).world.callClock.nextReceived = some v2 ∧ decodeFrame ty0 v2 = .control .none 0 pri0 aux0 ∧
    (rxX [some x4]).world.callClock.nextReceived = some x4 ∧ decodeFrame ty0 x4 = .control .calibGet 6 pri0 aux0 ∧
    6 ≤ (6#3).toNat := by decide
theorem witness_ActuatorValuesAreClamped : (Params.default .rx).wf := by decide
theorem witness_RequestCodesAlone :
    100 = (rxX []).world.nextClock ∧ (rxX []).params.role = .rx ∧ (rxX []).regs.lsPhase = .idle ∧
    (rxX []).world.radioListening = true ∧ (5#3).toNat ≤ 5 ∧
    6 ≤ (6#3).toNat ∧ 1508 = (txT1 1508).world.nextClock ∧ (txT1 1508).params.role = .tx := by decide
theorem witness_ReceiverActsOnControlFrame :
    (rxX []).params.role = .rx ∧ (rxX []).regs.lsPhase = .idle ∧ (rxX []).world.radioListening = true ∧
    (rxX []).world.radioHeld = [] ∧ 100 = (rxX []).world.nextClock ∧
    Req.calibSet ≠ .status ∧ (5#3).toNat ≤ 5 ∧ 6 ≤ (6#3).toNat := by decide
theorem witness_ReceiverIgnoresOtherFrames :
    (rxX []).params.role = .rx ∧ (rxX []).regs.lsPhase = .idle ∧ (rxX []).world.radioListening = true ∧
    (rxX []).world.radioHeld = [] ∧ (rxX []).params.types.wf ∧ 100 = (rxX []).world.nextClock ∧
    (Instr.frameUnassigned 255).wf (rxX []).params.types = true ∧
    encode (rxX []).params.types (.frameUnassigned 255) = .frame (memWrite1 0 255 zeroFrame) ∧
    ∃ type, Instr.frameUnassigned 255 = .frameUnassigned type :=
  ⟨by decide, by decide, by decide, by decide, by decide, by decide, by decide, by decide, 255, rfl⟩
theorem witness_TransmitterHoldsStatusFrame :
    (txWindow 1000 1019 []).params.role = .tx ∧ (txWindow 1000 1019 []).regs.lsPhase = .listen ∧
    (txWindow 1000 1019 []).world.radioHeld = [] ∧ (txWindow 1000 1019 []).params.types.wf ∧
    1019 = (txWindow 1000 1019 []).world.nextClock ∧
    (1019#32 - (txWindow 1000 1019 []).regs.lsListenStart).toNat < (txWindow 1000 1019 []).params.listenDurationMs := by
  decide
theorem witness_TransmitterHandsOnOrDiscardsFrame :
    (txWindow 1000 1019 []).params.role = .tx ∧ (txWindow 1000 1019 []).regs.lsPhase = .listen ∧
    (txWindow 1000 1019 []).world.radioHeld = [] ∧ (txWindow 1000 1019 []).params.types.wf ∧
    1019 = (txWindow 1000 1019 []).world.nextClock ∧
    (1019#32 - (txWindow 1000 1019 []).regs.lsListenStart).toNat < (txWindow 1000 1019 []).params.listenDurationMs ∧
    (txWindow 1000 1019 []).params.types = ty0 ∧ (Instr.frameCalibGet 2 cal0).wf ty0 = true ∧
    encode ty0 (.frameCalibGet 2 cal0) = .frame v12 ∧
    ∀ good rating batt, Instr.frameCalibGet 2 cal0 ≠ .frameStatus good rating batt :=
  ⟨by decide, by decide, by decide, by decide, by decide, by decide, by decide, by decide, by decide, by simp⟩
/-- A frame before this one at a receiver, and at a transmitter that listens. -/
theorem witness_FrameWaitsBehindHeldFrames :
    encode ty0 (.frameCalibGet 2 cal0) = .frame v12 ∧ (holding v1 (rxX [])).params.types = ty0 ∧
    (holding v1 (rxX [])).world.radioHeld = v1 :: [] ∧ (holding v1 (rxX [])).params.role = .rx ∧
    (holding v1 (rxX [])).regs.lsPhase = .idle ∧ (holding v1 (rxX [])).world.radioListening = true ∧
    (holding v8 (txWindow 1000 1019 [])).world.radioHeld = v8 :: [] ∧
    (holding v8 (txWindow 1000 1019 [])).params.role = .tx ∧ (holding v8 (txWindow 1000 1019 [])).regs.lsPhase = .listen ∧
    ((holding v8 (txWindow 1000 1019 [])).world.nextClock -
      (holding v8 (txWindow 1000 1019 [])).regs.lsListenStart).toNat <
      (holding v8 (txWindow 1000 1019 [])).params.listenDurationMs := by decide
theorem witness_UnpolledFrameStaysOrIsLost :
    (txT1 1508).params.role = .tx ∧ (txT1 1508).params.types = ty0 ∧
    encode ty0 (.frameCalibGet 2 cal0) = .frame v12 ∧ (txT1 1508).regs.lsPhase = .idle ∧
    (txWindow 1000 1020 []).params.role = .tx ∧ (txWindow 1000 1020 []).regs.lsPhase = .listen ∧
    (txWindow 1000 1020 []).params.listenDurationMs ≤
      ((txWindow 1000 1020 []).world.nextClock - (txWindow 1000 1020 []).regs.lsListenStart).toNat := by decide
theorem witness_ResetClearsEveryRegister :
    ∃ r : Regs, r = ⟨0, 0, 0, 0, false, .idle, 0, 0, 0, 0, .none, 0, false, 0, 0⟩ := ⟨_, rfl⟩
theorem witness_ResetInsideWindowLeavesRadioListening :
    (txWindow 1000 1007 []).params.role = .tx ∧ (txWindow 1000 1007 []).regs.lsPhase = .listen ∧
    RadioInv (txWindow 1000 1007 []) := ⟨rfl, rfl, rfl⟩
/-- A transmitter after a RESET inside a window, a receiver whose radio does not listen, and the host's act lined up. -/
theorem witness_RadioOutOfModeIsRefusedUntilRestored :
    ((radioMode true (txT1 1508)).regs.lsPhase = .idle ∧ (radioMode true (txT1 1508)).params.role = .tx ∧
      (radioMode true (txT1 1508)).world.radioListening = true) ∧
    ((radioMode false (rxX [])).regs.lsPhase = .idle ∧ (radioMode false (rxX [])).params.role = .rx ∧
      (radioMode false (rxX [])).world.radioListening = false ∧
      encode (radioMode false (rxX [])).params.types (.frameCalibGet 2 cal0) = .frame v12) ∧
    { radioMode true (txT1 1508) with requests := [.restoreRadio] }.requests = .restoreRadio :: [] := by decide
/-- A step from inside a window that obtains a Status frame. -/
theorem witness_StepKeepsInvariant :
    Inv (txWindow 1000 1007 [some v8]) ∧ ∃ t, step (txWindow 1000 1007 [some v8]) = .next t :=
  ⟨txWindow_inv .., _, exec_listenstep_listening (s := (txWindow 1000 1007 [some v8]).pastRequest) ⟨rfl, rfl⟩⟩
theorem witness_ResetMeetsInvariant : Params.default .rx = Params.default .rx := rfl
theorem witness_StepKeepsRadioMode :
    RadioInv (txWindow 1000 1007 [some v8]) ∧ (∃ t, step (txWindow 1000 1007 [some v8]) = .next t) ∧
    decode ty0 (txWindow 1000 1007 [some v8]).presented ≠ .ok .reset :=
  ⟨rfl, ⟨_, exec_listenstep_listening (s := (txWindow 1000 1007 [some v8]).pastRequest) ⟨rfl, rfl⟩⟩, by decide⟩
theorem witness_HalfDuplexDiscipline :
    RadioInv (rxX [some v1]) ∧ ∃ t, exec .rxpoll (rxX [some v1]) = .next t := ⟨rfl, _, exec_rxpoll_ready ⟨rfl, rfl⟩ rfl⟩
theorem witness_ParametersNeverChange : ∃ t, exec .reset State.reset = .next t := ⟨_, rfl⟩
/-- A LISTENSTEP that obtains a calibration frame. -/
theorem witness_OnlyStatusFramesChangeHeldStatus :
    (∃ t, exec .listenstep (txWindow 1000 1007 [some v12]) = .next t) ∧ Instr.listenstep ≠ .reset ∧
    ((callsAfter (exec .listenstep (txWindow 1000 1007 [some v12]))).map receivedFrames) = some [v12] ∧
    ∀ B ∈ [v12], byteAt B 0 ≠ (txWindow 1000 1007 [some v12]).params.types.status :=
  ⟨⟨_, exec_listenstep_listening ⟨rfl, rfl⟩⟩, by decide, by decide,
    fun B h => by fin_cases h; decide⟩
theorem witness_OnlyControlFramesDriveActuators :
    (∃ t, exec .rxpoll (rxX [some v2]) = .next t) ∧
    ((callsAfter (exec .rxpoll (rxX [some v2]))).map (·.any Event.isActuator)) = some true :=
  ⟨⟨_, exec_rxpoll_ready ⟨rfl, rfl⟩ rfl⟩, by decide⟩
theorem witness_StepTableOfPhases :
    (RadioInv (txWindow 1000 1007 []) ∧ RadioInv (rxX [none]) ∧ RadioInv State.reset ∧ RadioInv (txT1 1508)) ∧
    (txWindow 1000 1007 []).regs.lsPhase = .listen ∧
    (∃ t, exec .listenstep (txWindow 1000 1007 []) = .next t) ∧ (∃ t, exec .rxpoll (rxX [none]) = .next t) ∧
    (∃ t, exec (.probe true) State.reset = .next t) ∧ (∃ t, exec (.tick 500) State.reset = .next t) ∧
    ∃ t, exec (.txcycle pri0 aux0 .noCal 0) (txT1 1508) = .next t :=
  ⟨⟨rfl, rfl, rfl, rfl⟩, rfl, ⟨_, exec_listenstep_listening ⟨rfl, rfl⟩⟩, ⟨_, exec_rxpoll_ready ⟨rfl, rfl⟩ rfl⟩, ⟨_, exec_probe_idle rfl _⟩,
    ⟨_, exec_tick_idle rfl _⟩, _, exec_txcycle_ready ⟨rfl, rfl⟩ rfl ..⟩
theorem witness_BlockIsNeverStuck :
    (Inv (txWindow 1000 1007 []) ∧ RadioInv (txWindow 1000 1007 []) ∧ (txWindow 1000 1007 []).regs.lsPhase = .listen) ∧
    (RadioInv State.reset ∧ State.reset.regs.lsPhase = .idle ∧ State.reset.params.role = .tx) ∧
    (RadioInv (State.resetWith (Params.default .rx)) ∧ (State.resetWith (Params.default .rx)).params.role = .rx) :=
  ⟨⟨txWindow_inv .., rfl, rfl⟩, ⟨rfl, rfl, rfl⟩, rfl, rfl⟩
theorem witness_TimingMissKeepsLastKnownValues :
    (txWindow 1000 1020 []).params.role = .tx ∧ (txWindow 1000 1020 []).regs.lsPhase = .listen ∧
    (txWindow 1000 1020 []).listenCondition = some .timingMiss := by decide
theorem witness_ProtocolMismatchIsDiscarded :
    (txWindow 1000 1007 [some v20]).params.role = .tx ∧ (txWindow 1000 1007 [some v20]).regs.lsPhase = .listen ∧
    1007 = (txWindow 1000 1007 [some v20]).world.nextClock ∧ 100 = (rxX [some v8]).world.nextClock ∧
    (rxX [some v8]).world.radioListening = true ∧
    (txWindow 1000 1007 [some v20]).listenCondition = some .protocolMismatch ∧ (rxX [some v8]).params.role = .rx ∧
    (rxX [some v8]).regs.lsPhase = .idle ∧ (rxX [some v8]).rxpollCondition = some .protocolMismatch := by decide
/-- R206, U21: a failed send puts no frame on the link. -/
theorem test_failed_send_is_lost :
    launchedFrames [.radioSend v1 false, .radioSend v2 true] = [v2] ∧
    sentFrames [.radioSend v1 false, .radioSend v2 true] = [v1, v2] := by decide
/-- A loss on the link is a next state of the system, and so is a step of either endpoint. -/
theorem witness_LinkDeliversASubsequence :
    LinkInv System.reset ∧ System.step (.loseTowards .rx 0) System.reset = .next System.reset ∧
    (∃ z, System.step (.stepOf .tx (.probe true) true) System.reset = .next z) ∧
    ∃ z, System.step (.stepOf .rx .rxpoll true) System.reset = .next z :=
  ⟨⟨by decide, by decide⟩, rfl, ⟨_, rfl⟩, _, rfl⟩
theorem witness_EndpointsShareNoState :
    (∃ z, System.step (.stepOf .tx (.probe true) true) System.reset = .next z) ∧
    (∃ z, System.step (.stepOf .rx .rxpoll true) System.reset = .next z) ∧
    (∃ z, System.step (.restoreRadioOf .tx) System.reset = .next z) ∧
    ∃ z, System.step (.restoreRadioOf .rx) System.reset = .next z := ⟨⟨_, rfl⟩, ⟨_, rfl⟩, ⟨_, rfl⟩, _, rfl⟩

end Sys2Proof.Tests
end

/-! The frame buffer primitives byte by byte (spec/00_scope.md R11; spec/20_memory.md R61). -/

namespace Sys2Proof

/-- The bytes of a two-byte write, low byte first (R11). -/
theorem byteAt_memWrite2_field (B : FrameBytes) (off k : Nat) (v : U16) (h : off + 1 < 16) (hk : k < 2) :
    byteAt (memWrite2 off v B) (off + k) = v.extractLsb' (8 * k) 8 := by
  rw [byteAt_memWrite2 _ _ _ _ h]
  obtain rfl | rfl : k = 0 ∨ k = 1 := by omega
  · rw [if_neg (by omega), if_pos (Nat.add_zero off).symm]
  · rw [if_pos rfl]

/-- A two-byte write leaves every byte beside its field. -/
theorem byteAt_memWrite2_other (B : FrameBytes) (off k : Nat) (v : U16) (h : off + 1 < 16)
    (hk : k < off ∨ off + 1 < k) : byteAt (memWrite2 off v B) k = byteAt B k := by
  rw [byteAt_memWrite2 _ _ _ _ h, if_neg (by omega), if_neg (by omega)]

/-- A part of a part of a word is the part that starts at the sum of the two offsets. -/
theorem extractLsb'_extractLsb'_of_add_le {w a b m n : Nat} (v : BitVec w) (h : b + n ≤ m) :
    (v.extractLsb' a m).extractLsb' b n = v.extractLsb' (a + b) n := by
  ext i hi
  have hm : b + i < m := by omega
  simp [hm, Nat.add_assoc]

/-- The bytes of a four-byte write, low byte first (R11): those of the low half, then those of the high half. -/
theorem byteAt_memWrite4_field (B : FrameBytes) (off k : Nat) (v : BitVec 32) (h : off + 3 < 16) (hk : k < 4) :
    byteAt (memWrite4 off v B) (off + k) = v.extractLsb' (8 * k) 8 := by
  rw [memWrite4]
  obtain hlow | hhigh := Nat.lt_or_ge k 2
  · rw [byteAt_memWrite2_other _ _ _ _ (by omega) (by omega), byteAt_memWrite2_field _ _ _ _ (by omega) hlow,
      extractLsb'_extractLsb'_of_add_le _ (by omega), Nat.zero_add]
  · obtain ⟨j, rfl⟩ := Nat.exists_eq_add_of_le hhigh
    rw [← Nat.add_assoc, byteAt_memWrite2_field _ _ _ _ (by omega) (by omega),
      extractLsb'_extractLsb'_of_add_le _ (by omega), Nat.mul_add]

/-- Settles O11, width by width: the bytes a write sets and those it leaves, and the number a read gives. -/
theorem frameBufferReadsAndWrites : Obligations.FrameBufferReadsAndWrites := by
  intro B off
  refine ⟨fun h v => ⟨?_, fun k _ hk => ?_⟩,
    fun h => ⟨(le16_eq B off).symm, fun v => ⟨fun k hk => ?_, fun k _ hk => ?_⟩⟩,
    fun h => ⟨(le32_eq B off).symm, fun v => ⟨fun k hk => ?_, fun k _ hk => ?_⟩⟩⟩
  · rw [byteAt_memWrite1 _ _ _ _ h, if_pos rfl]
  · rw [byteAt_memWrite1 _ _ _ _ h, if_neg hk.symm]
  · exact byteAt_memWrite2_field B off k v h hk
  · exact byteAt_memWrite2_other B off k v h hk
  · exact byteAt_memWrite4_field B off k v h hk
  · exact byteAt_memWrite4 B off k v h hk

end Sys2Proof

/-! The moves of an endpoint: every instruction but RESET is a run of a few kinds of move, so that what each move keeps
is kept by every instruction and, with RESET and the host's act on the radio, by every step (spec/10_state.md R28). -/

namespace Sys2Proof.Machine

/-- What an endpoint does in one go: an act on what no register, call or mode shows, PROBE or TICK in `IDLE`, TXCYCLE,
LISTENSTEP, RXPOLL, and the receiver's reply to a bare request code (log 8), each where it is enabled. -/
inductive Move : State → State → Prop where
  | outside {s t : State} (regs : t.regs = s.regs) (params : t.params = s.params)
      (trace : t.world.trace = s.world.trace) (mode : t.world.radioListening = s.world.radioListening) : Move s t
  | probe {s : State} (idle : s.regs.lsPhase = .idle) (cd : Bool) : Move s (s.onRegs (Regs.probe cd))
  | tick {s : State} (idle : s.regs.lsPhase = .idle) (now : Time) : Move s (s.tickAt now)
  | txcycle {s : State} (ready : s.txReady) (rests : s.radioRests) (pri : Primary) (aux : Auxiliary) (kind : CalKind)
      (sel : Sel3) : Move s (s.txcycleStep pri aux kind sel)
  | listenStep {s : State} (listening : s.txListening) : Move s s.listenStep
  | rxpoll {s : State} (ready : s.rxReady) (rests : s.radioRests) : Move s s.rxpollStep
  | reply {s : State} (ready : s.rxReady) (rests : s.radioRests) (request : Req) (sel : Sel3) :
      Move s ((s.onWorld World.callClock).reply request sel s.world.nextClock)

/-- A run of moves. -/
abbrev Moves : State → State → Prop := Relation.ReflTransGen Move

/-- No move changes a parameter (R77). -/
theorem Move.params_eq {s t : State} (m : Move s t) : t.params = s.params := by
  cases m with
  | outside _ params => exact params
  | probe | tick => rfl
  | txcycle => exact State.txcycleStep_params ..
  | listenStep => exact State.listenStep_params s
  | rxpoll => exact State.rxpollStep_params s
  | reply => exact State.reply_params ..

/-- What every move keeps is kept by every run of moves. -/
theorem Moves.keeps {P : State → Prop} {s t : State} (m : Moves s t) (hs : P s)
    (keep : ∀ {u v : State}, Move u v → P u → P v) : P t := by
  induction m with
  | refl => exact hs
  | tail _ last ih => exact keep last ih

/-! Every instruction but RESET is a run of moves. -/

/-- The parts of the state beside the registers, the parameters and the surroundings are the host's. -/
theorem moves_host (s : State) (requests : List Presented) (out : Option CodecResult) (cycle : Bool) :
    Moves s { s with requests := requests, codecOut := out, byCycle := cycle } :=
  .single (.outside rfl rfl rfl rfl)

/-- LISTENSTEPs until `IDLE` are moves of a transmitter (R103). -/
theorem moves_listenFor (fuel : Nat) {s : State} (hr : s.params.role = .tx) : Moves s (s.listenFor fuel) := by
  induction fuel generalizing s with
  | zero => exact .refl
  | succ fuel ih =>
    unfold State.listenFor
    split
    · rename_i hp
      exact .head (.listenStep ⟨hr, hp⟩) (ih (by rw [State.listenStep_params, hr]))
    · exact .refl

/-- A frame that reaches the radio is left there or polled for (log 7). -/
theorem frameAtRadio_moves {B : FrameBytes} {s t : State} (h : frameAtRadio B s = .next t) : Moves s t := by
  have arrives : Move s (s.onWorld (World.arriveFrame B)) := .outside rfl rfl (by simp) (by simp)
  have left : ∀ u : State, Move u (u.onWorld (World.leaveFrame B)) := fun _ => .outside rfl rfl rfl rfl
  unfold frameAtRadio at h
  split at h
  · obtain ⟨ready, rests, rfl⟩ := State.guarded_next.1 h
    exact .head arrives (.single (.rxpoll ready (by simpa [State.radioRests] using rests)))
  · obtain rfl := next_inj h
    exact .single (left s)
  · rename_i hr hp
    obtain rfl := next_inj h
    split
    · exact .head (.listenStep ⟨hr, hp⟩) (.single (left _))
    · exact .head arrives (.single (.listenStep ⟨hr, hp⟩))

/-- A bare request code is nothing at a transmitter and a reply at a receiver (log 8). -/
theorem execRequest_moves {request : Req} {sel : Sel3} {s t : State} (h : execRequest request sel s = .next t) :
    Moves s t := by
  unfold execRequest at h
  split at h
  · rw [next_inj h]
  · obtain ⟨ready, rests, rfl⟩ := State.guarded_next.1 h
    exact .single (.reply ready rests request sel)

/-- An answer under one condition is a next state exactly where the condition holds. -/
theorem ite_next_iff {enabled : Prop} [Decidable enabled] {u t : State} {r : Refusal} :
    (if enabled then Host.Outcome.next u else .refused r : Host.Outcome State Fault Refusal) = .next t ↔
      enabled ∧ u = t := by
  by_cases h : enabled <;> simp [h]

/-- PROBE is enabled in `IDLE` only (R28, R131). -/
theorem exec_probe_next {cd : Bool} {s t : State} :
    exec (.probe cd) s = .next t ↔ s.regs.lsPhase = .idle ∧ s.onRegs (Regs.probe cd) = t := ite_next_iff

/-- TICK is enabled in `IDLE` only (R28, R133). -/
theorem exec_tick_next {now : Time} {s t : State} :
    exec (.tick now) s = .next t ↔ s.regs.lsPhase = .idle ∧ s.tickAt now = t := ite_next_iff

/-- LISTENSTEP is a transmitter's poll in `LISTEN` and nothing in `IDLE` (R28, R156; log 19). -/
theorem exec_listenstep_next {s t : State} :
    exec .listenstep s = .next t ↔
      (s.regs.lsPhase = .idle ∧ s = t) ∨ (s.txListening ∧ s.listenStep = t) := by
  cases hp : s.regs.lsPhase <;> cases hr : s.params.role <;> simp [exec, execListenstep, State.txListening, hp, hr]

/-- Every instruction but RESET is a run of moves. -/
theorem exec_moves {i : Instr} {s t : State} (h : exec i s = .next t) (hi : i ≠ .reset) : Moves s t := by
  cases i with
  | frameUnknown | frameUnassigned | frameControl | frameStatus | frameCalibGet | frameCalibSet =>
    exact frameAtRadio_moves h
  | reqNone | reqStatus | reqCalibGet | reqCalibSet => exact execRequest_moves h
  | probe cd =>
    obtain ⟨idle, rfl⟩ := exec_probe_next.1 h
    exact .single (.probe idle cd)
  | tick now =>
    obtain ⟨idle, rfl⟩ := exec_tick_next.1 h
    exact .single (.tick idle now)
  | txcycle pri aux kind sel =>
    obtain ⟨ready, rests, rfl⟩ := State.guarded_next.1 h
    exact .head (.txcycle ready rests pri aux kind sel) (moves_host _ _ _ _)
  | rxpoll =>
    obtain ⟨ready, rests, rfl⟩ := State.guarded_next.1 h
    exact .single (.rxpoll ready rests)
  | listenstep =>
    obtain ⟨-, rfl⟩ | ⟨listening, rfl⟩ := exec_listenstep_next.1 h
    · exact .refl
    · exact .single (.listenStep listening)
  | reset => exact absurd rfl hi
  | codecEncode | codecDecode =>
    obtain rfl := next_inj h
    exact moves_host _ _ _ _
  | cycle pri aux kind sel =>
    obtain ⟨ready, rests, rfl⟩ := State.guarded_next.1 h
    have begun : Moves s ((s.txcycleStep pri aux kind sel).begunBy true) :=
      .head (.txcycle ready rests pri aux kind sel) (moves_host _ _ _ _)
    exact begun.trans (moves_listenFor _ (by simp [State.txcycleStep_params, ready.1]))

/-- What a step can do: a run of moves, a RESET, or the host's act on the radio in `IDLE` (R28, R230, R233). -/
theorem step_next {s t : State} (h : step s = .next t) :
    Moves s t ∨
    (decode s.params.types s.presented = .ok .reset ∧ s.pastRequest.onRegs (fun _ => Regs.reset) = t) ∨
    (s.regs.lsPhase = .idle ∧
      t = s.pastRequest.onWorld fun w => { w with radioListening := restingMode s.params.role }) := by
  unfold step at h
  split at h
  · exact .inl (exec_moves h (by simp))
  · split at h
    · rename_i i hd
      by_cases hi : i = .reset
      · subst hi
        exact .inr (.inl ⟨hd, next_inj h⟩)
      · exact .inl ((moves_host s s.requests.tail s.codecOut s.byCycle).trans (exec_moves h hi))
    · exact .inr (.inr (State.restoreRadio_next h))
    · cases h
    · cases h

/-! The invariant, write by write. -/

/-- A frame at a receiver is noted and probed; a Control frame is then answered and forwarded (R180 lines 4 to 18). -/
theorem State.handle_cases (B : FrameBytes) (t : Time) (s : State) :
    s.handle B t = (s.onRegs (Regs.noteReceive t)).probeCarrier ∨
    ∃ request sel pri aux,
      s.handle B t = ((s.onRegs (Regs.noteReceive t)).probeCarrier.reply request sel t).forward pri aux := by
  cases h : decodeFrame s.params.types B with
  | control request sel pri aux => exact .inr ⟨request, sel, pri, aux, State.handle_control h t⟩
  | status | calibGet | calibSet | unknown => exact .inl (State.handle_other (by simp [h]) t)

/-- The eight registers that only a transmitter writes, at reset (R20). -/
theorem Regs.txRegsAtReset_iff {r : Regs} :
    r.TxRegsAtReset ↔ r.lsPhase = .idle ∧ r.lsLastLatency = 0#32 ∧ r.lsLastStatusTime = 0#32 ∧
      r.lsReqDecision = .none ∧ r.lsListenStart = 0#32 ∧ r.statGood = false ∧ r.statRating = 0#8 ∧
      r.statBatt = 0#32 :=
  ⟨fun ⟨a, b, c, d, e, f, g, h⟩ => ⟨a, b, c, d, e, f, g, h⟩,
    fun ⟨a, b, c, d, e, f, g, h⟩ => ⟨a, b, c, d, e, f, g, h⟩⟩

/-- The quality component is at most `RATING_HALF` (R135). -/
theorem quality_le {p : Params} {good n : Nat} (h : good ≤ n) : quality p good n ≤ p.ratingHalf :=
  Nat.div_le_of_le_mul (by rw [Nat.mul_comm n]; exact Nat.mul_le_mul_left _ h)

/-- The rating of a closed window is at most twice `RATING_HALF` (R135). -/
theorem windowRating_le (p : Params) (good weak : Nat) : (windowRating p good weak).toNat ≤ 2 * p.ratingHalf := by
  unfold windowRating
  split
  · simp
  · have hd : density p (good + weak) ≤ p.ratingHalf := Nat.min_le_right ..
    have hq : quality p good (good + weak) ≤ p.ratingHalf := quality_le (Nat.le_add_right ..)
    rw [BitVec.toNat_ofNat]
    exact (Nat.mod_le ..).trans (by omega)

/-- A TICK keeps the rating in its range (R24, R135). -/
theorem Regs.tick_sqRating_le {p : Params} {r : Regs} (now : Time) (h : r.sqRating.toNat ≤ 2 * p.ratingHalf) :
    (r.tick p now).sqRating.toNat ≤ 2 * p.ratingHalf := by
  unfold Regs.tick
  split
  · exact windowRating_le ..
  · exact h

/-- The invariant speaks of the registers and the parameters only. -/
theorem Inv.congr {s t : State} (h : Inv s) (regs : t.regs = s.regs) (params : t.params = s.params) : Inv t where
  params := by simpa only [params] using h.params
  rating := by simpa only [regs, params] using h.rating
  receiver := by simpa only [regs, params] using h.receiver
  listening := by simpa only [regs] using h.listening
  latency := by simpa only [regs, params] using h.latency

/-- Every register at reset meets the invariant (R49). -/
theorem Inv.of_reset {s : State} (params : s.params.wf) (regs : s.regs = Regs.reset) : Inv s where
  params := params
  rating := by simp [regs, Regs.reset]
  receiver := fun _ => by simp [regs, Regs.txRegsAtReset_iff, Regs.reset]
  listening := by simp [regs, Regs.reset]
  latency := by simp [regs, Regs.reset]

section
variable {s : State} (h : Inv s)
include h

theorem Inv.onWorld (f : World → World) : Inv (s.onWorld f) := h.congr rfl rfl

theorem Inv.probe (cd : Bool) : Inv (s.onRegs (Regs.probe cd)) where
  params := h.params
  rating := by simpa using h.rating
  receiver := by simpa [Regs.txRegsAtReset_iff] using h.receiver
  listening := by simpa using h.listening
  latency := by simpa using h.latency

theorem Inv.tickAt (now : Time) : Inv (s.tickAt now) where
  params := h.params
  rating := Regs.tick_sqRating_le now h.rating
  receiver := by simpa [Regs.txRegsAtReset_iff] using h.receiver
  listening := by simpa using h.listening
  latency := by simpa using h.latency

theorem Inv.noteReceive (t : Time) : Inv (s.onRegs (Regs.noteReceive t)) where
  params := h.params
  rating := h.rating
  receiver := by simpa [Regs.txRegsAtReset_iff] using h.receiver
  listening := h.listening
  latency := h.latency

/-- A send is noted in `IDLE` only, so no open window loses its start. -/
theorem Inv.noteSend (idle : s.regs.lsPhase = .idle) (t : Time) : Inv (s.onRegs (Regs.noteSend t)) where
  params := h.params
  rating := h.rating
  receiver := by simpa [Regs.txRegsAtReset_iff] using h.receiver
  listening := by simp [idle]
  latency := h.latency

theorem Inv.setDecision (ready : s.txReady) (request : Req) : Inv (s.onRegs (Regs.setDecision request)) where
  params := h.params
  rating := h.rating
  receiver := by simp [ready.1]
  listening := by simp [ready.2]
  latency := h.latency

/-- A window opens for a request, at the time of the send (R155). -/
theorem Inv.openListen (hr : s.params.role = .tx) (request : s.regs.lsReqDecision ≠ .none) {t : Time}
    (sent : s.regs.lsLastTxTime = t) : Inv (s.onRegs (Regs.openListen t)) where
  params := h.params
  rating := h.rating
  receiver := by simp [hr]
  listening := fun _ => ⟨request, sent.symm⟩
  latency := h.latency

/-- The latency of a frame inside the window is below its bound, for the window began at the send (R158). -/
theorem Inv.noteLatency (listening : s.txListening) {t : Time} (inside : ¬ s.regs.listenExpired s.params t) :
    Inv (s.onRegs (Regs.noteLatency t)) where
  params := h.params
  rating := h.rating
  receiver := by simp [listening.1]
  listening := h.listening
  latency := by
    obtain ⟨-, start⟩ := h.listening listening.2
    right
    simpa [elapsed, start] using inside

theorem Inv.process (hr : s.params.role = .tx) (f : Frame) (t : Time) : Inv (s.process f t) := by
  cases f with
  | status good rating batt =>
    exact {
      params := h.params
      rating := h.rating
      receiver := by simp [State.process, hr]
      listening := h.listening
      latency := h.latency }
  | calibGet | calibSet => exact h.onWorld _
  | control | unknown => exact h

theorem Inv.endListen : Inv (s.onRegs Regs.endListen) where
  params := h.params
  rating := h.rating
  receiver := fun hr => by
    obtain ⟨-, kept⟩ := Regs.txRegsAtReset_iff.1 (h.receiver hr)
    exact Regs.txRegsAtReset_iff.2 ⟨rfl, kept⟩
  listening := by simp
  latency := h.latency

theorem Inv.probeCarrier : Inv s.probeCarrier := (h.onWorld World.callCarrierDetected).probe _

theorem Inv.finish (t : Time) : Inv (s.finish t) := by
  unfold State.finish
  split
  · exact h.probeCarrier.tickAt t
  · exact h.tickAt t

theorem Inv.endCycle (t : Time) : Inv (s.endCycle t) := ((h.onWorld _).finish t).endListen

theorem Inv.reply (idle : s.regs.lsPhase = .idle) (request : Req) (sel : Sel3) (t : Time) :
    Inv (s.reply request sel t) := by
  obtain e | ⟨_, _, e⟩ | ⟨_, _, e⟩ := State.reply_cases request sel t s
  · rwa [e]
  · exact (h.noteSend idle t).congr e.regs e.setting.1
  · exact (h.noteSend idle t).congr e.regs e.setting.1

theorem Inv.handle (idle : s.regs.lsPhase = .idle) (B : FrameBytes) (t : Time) : Inv (s.handle B t) := by
  have probed : Inv (s.onRegs (Regs.noteReceive t)).probeCarrier := (h.noteReceive t).probeCarrier
  obtain e | ⟨request, sel, pri, aux, e⟩ := State.handle_cases B t s <;> rw [e]
  · exact probed
  · exact (probed.reply (by simpa using idle) request sel t).onWorld _

theorem Inv.rxpollStep (idle : s.regs.lsPhase = .idle) : Inv s.rxpollStep := by
  have polled : Inv ((s.onWorld World.callClock).onWorld World.callTryReceive) := (h.onWorld _).onWorld _
  cases hB : s.world.callClock.nextReceived with
  | none =>
    rw [State.rxpollStep_none hB]
    exact polled.tickAt _
  | some B =>
    rw [State.rxpollStep_some hB]
    exact (polled.handle idle B _).tickAt _

theorem Inv.arrive (listening : s.txListening) {t : Time} (inside : ¬ s.regs.listenExpired s.params t)
    (B : FrameBytes) : Inv (s.arrive B t) :=
  (((h.noteReceive t).noteLatency listening inside).process listening.1 _ t).endCycle t

theorem Inv.listenStep (listening : s.txListening) : Inv s.listenStep := by
  by_cases expired : s.regs.listenExpired s.params s.world.nextClock
  · rw [State.listenStep_expired expired]
    exact (h.onWorld _).endCycle _
  · have polled : Inv ((s.onWorld World.callClock).onWorld World.callTryReceive) := (h.onWorld _).onWorld _
    cases hB : s.world.callClock.nextReceived with
    | none =>
      rwa [State.listenStep_none expired hB]
    | some B =>
      rw [State.listenStep_some expired hB]
      exact polled.arrive listening expired B

theorem Inv.txcycleStep (ready : s.txReady) (pri : Primary) (aux : Auxiliary) (kind : CalKind) (sel : Sel3) :
    Inv (s.txcycleStep pri aux kind sel) := by
  have sent : Inv (s.txSent pri aux kind sel) :=
    (((h.onWorld World.callClock).setDecision ready (decideRequest s.params s.regs s.world.nextClock kind)).onWorld
      _).noteSend ready.2 s.world.nextClock
  by_cases request : decideRequest s.params s.regs s.world.nextClock kind = .none
  · rw [State.txcycleStep_none request]
    exact sent.finish _
  · rw [State.txcycleStep_some request]
    exact (sent.onWorld _).openListen ready.1 request rfl

end

/-- Every move keeps the invariant. -/
theorem Move.keeps_inv {s t : State} (m : Move s t) (h : Inv s) : Inv t := by
  cases m with
  | outside regs params => exact h.congr regs params
  | probe _ cd => exact h.probe cd
  | tick _ now => exact h.tickAt now
  | txcycle ready _ pri aux kind sel => exact h.txcycleStep ready pri aux kind sel
  | listenStep listening => exact h.listenStep listening
  | rxpoll ready => exact h.rxpollStep ready.2
  | reply ready _ request sel => exact (h.onWorld _).reply ready.2 request sel _

/-- Settles O45: every move keeps the invariant, RESET establishes it, and the host's act on the radio writes no
register. -/
theorem stepKeepsInvariant : Obligations.StepKeepsInvariant := by
  intro s t h hstep
  obtain moves | ⟨-, rfl⟩ | ⟨-, rfl⟩ := step_next hstep
  · exact moves.keeps h Move.keeps_inv
  · exact .of_reset h.params rfl
  · exact h.congr rfl rfl

/-- Settles O46: the registers are at reset, and the parameters are legal at either role. -/
theorem resetMeetsInvariant : Obligations.ResetMeetsInvariant := by
  rintro role p rfl
  refine ⟨.of_reset ?_ rfl, rfl, rfl, rfl, rfl, rfl, rfl, rfl, rfl⟩
  cases role <;> decide

end Sys2Proof.Machine

/-! What the steps do to the phase, the radio's mode and the held status registers. -/

namespace Sys2Proof.Machine

/-! The registers after the receiver's operations and after TXCYCLE. -/

/-- A reply notes the time of its send and writes no other register (R185 to R187). -/
theorem State.reply_regs (request : Req) (sel : Sel3) (t : Time) (s : State) :
    (s.reply request sel t).regs = s.regs ∨ (s.reply request sel t).regs = s.regs.noteSend t := by
  obtain e | ⟨_, _, e⟩ | ⟨_, _, e⟩ := State.reply_cases request sel t s
  · exact .inl (by rw [e])
  · exact .inr e.regs
  · exact .inr e.regs

/-- A frame at a receiver is noted and probed, and possibly answered (R180 lines 4 to 18). -/
theorem State.handle_regs (B : FrameBytes) (t : Time) (s : State) :
    (s.handle B t).regs = (s.regs.noteReceive t).probe s.world.nextCarrier ∨
    (s.handle B t).regs = ((s.regs.noteReceive t).probe s.world.nextCarrier).noteSend t := by
  obtain e | ⟨request, sel, pri, aux, e⟩ := State.handle_cases B t s <;> rw [e]
  · exact .inl rfl
  · rw [State.forward_regs]
    exact State.reply_regs request sel t (s.onRegs (Regs.noteReceive t)).probeCarrier

/-- The registers after RXPOLL: a tick, before it possibly a reception and a reply (R180). -/
theorem State.rxpollStep_regs (s : State) :
    s.rxpollStep.regs = s.regs.tick s.params s.world.nextClock ∨
    ∃ cd r, s.rxpollStep.regs = r.tick s.params s.world.nextClock ∧
      (r = (s.regs.noteReceive s.world.nextClock).probe cd ∨
       r = ((s.regs.noteReceive s.world.nextClock).probe cd).noteSend s.world.nextClock) := by
  cases hB : s.world.callClock.nextReceived with
  | none => exact .inl (by rw [State.rxpollStep_none hB]; rfl)
  | some B =>
    rw [State.rxpollStep_some hB, State.tickAt_regs, State.handle_params]
    exact .inr ⟨_, _, rfl,
      State.handle_regs B s.world.nextClock ((s.onWorld World.callClock).onWorld World.callTryReceive)⟩

/-- RXPOLL stays in its phase (R28). -/
theorem State.rxpollStep_lsPhase (s : State) : s.rxpollStep.regs.lsPhase = s.regs.lsPhase := by
  obtain e | ⟨cd, r, e, rfl | rfl⟩ := s.rxpollStep_regs <;> simp [e]

/-- The phase after TXCYCLE is the request's: no request finishes in `IDLE`, a request opens the window (R28, R155). -/
theorem State.txcycleStep_lsPhase {s : State} (idle : s.regs.lsPhase = .idle) (pri : Primary) (aux : Auxiliary)
    (kind : CalKind) (sel : Sel3) :
    (s.txcycleStep pri aux kind sel).regs.lsPhase =
      if (s.txcycleStep pri aux kind sel).regs.lsReqDecision = .none then .idle else .listen := by
  by_cases request : decideRequest s.params s.regs s.world.nextClock kind = .none
  · simp [State.txcycleStep_none request, State.txSent, request, idle]
  · simp [State.txcycleStep_some request, State.txSent, request]

/-- A listen window stays open exactly when it has not expired and the poll obtains nothing (R28, R156). -/
theorem State.listenStep_lsPhase {s : State} (listening : s.regs.lsPhase = .listen) :
    s.listenStep.regs.lsPhase = .listen ↔
      s.world.callClock.nextReceived = none ∧ ¬ s.regs.listenExpired s.params s.world.nextClock := by
  by_cases expired : s.regs.listenExpired s.params s.world.nextClock
  · simp [State.listenStep_expired expired, expired]
  · cases hB : s.world.callClock.nextReceived with
    | none => simp [State.listenStep_none expired hB, listening, expired]
    | some B => simp [State.listenStep_some expired hB, State.arrive]

/-! The radio's mode (R47). -/

/-- After a listen window the radio transmits again, and the phase is `IDLE`. -/
theorem RadioInv.endCycle {s : State} (hr : s.params.role = .tx) (t : Time) : RadioInv (s.endCycle t) := by
  simp [RadioInv, hr]

theorem RadioInv.arrive {s : State} (hr : s.params.role = .tx) (B : FrameBytes) (t : Time) :
    RadioInv (s.arrive B t) := .endCycle (by simpa using hr) t

/-- In `IDLE` the mode that goes with the state is the resting mode of the role (R47, R233). -/
theorem RadioInv.rests {s : State} (h : RadioInv s) (idle : s.regs.lsPhase = .idle) : s.radioRests := by
  simpa [RadioInv, State.radioRests, restingMode, idle] using h

/-- A receiver's radio that listens is in the mode that goes with the state. -/
theorem RadioInv.receiver {s : State} (hr : s.params.role = .rx) (mode : s.world.radioListening = true) :
    RadioInv s := by
  simp [RadioInv, hr, mode]

/-- A reply leaves a listening radio listening (R188). -/
theorem State.reply_radioListening {s : State} (mode : s.world.radioListening = true) (request : Req) (sel : Sel3)
    (t : Time) : (s.reply request sel t).world.radioListening = true := by
  obtain e | ⟨_, _, e⟩ | ⟨_, _, e⟩ := State.reply_cases request sel t s
  · rwa [e]
  · exact e.mode
  · exact e.mode

theorem State.handle_radioListening {s : State} (mode : s.world.radioListening = true) (B : FrameBytes) (t : Time) :
    (s.handle B t).world.radioListening = true := by
  obtain e | ⟨request, sel, pri, aux, e⟩ := State.handle_cases B t s <;> rw [e]
  · exact mode
  · rw [State.forward_radioListening]
    exact State.reply_radioListening (s := (s.onRegs (Regs.noteReceive t)).probeCarrier) mode request sel t

/-- RXPOLL leaves a listening radio listening (R47). -/
theorem State.rxpollStep_radioListening {s : State} (mode : s.world.radioListening = true) :
    s.rxpollStep.world.radioListening = true := by
  cases hB : s.world.callClock.nextReceived with
  | none => simp [State.rxpollStep_none hB, mode]
  | some B =>
    rw [State.rxpollStep_some hB]
    exact State.handle_radioListening (by simpa using mode) ..

/-- LISTENSTEP leaves the radio listening exactly while the window stays open (R156). -/
theorem RadioInv.listenStep {s : State} (h : RadioInv s) (hr : s.params.role = .tx) : RadioInv s.listenStep := by
  by_cases expired : s.regs.listenExpired s.params s.world.nextClock
  · rw [State.listenStep_expired expired]
    exact .endCycle (s := s.onWorld World.callClock) hr _
  · cases hB : s.world.callClock.nextReceived with
    | none => simpa [State.listenStep_none expired hB, RadioInv] using h
    | some B =>
      rw [State.listenStep_some expired hB]
      exact .arrive (s := (s.onWorld World.callClock).onWorld World.callTryReceive) hr B _

/-- TXCYCLE switches the radio to listening exactly when it opens the window (R155). -/
theorem RadioInv.txcycleStep {s : State} (ready : s.txReady) (rests : s.radioRests) (pri : Primary) (aux : Auxiliary)
    (kind : CalKind) (sel : Sel3) : RadioInv (s.txcycleStep pri aux kind sel) := by
  have mode : s.world.radioListening = false := by simpa [State.radioRests, ready.1] using rests
  by_cases request : decideRequest s.params s.regs s.world.nextClock kind = .none
  · simp [RadioInv, State.txcycleStep_none request, State.txSent, ready.1, ready.2, mode]
  · simp [RadioInv, State.txcycleStep_some request]

/-- Every move keeps the radio's mode. -/
theorem Move.keeps_radioInv {s t : State} (m : Move s t) (h : RadioInv s) : RadioInv t := by
  cases m with
  | outside regs params _ mode => rwa [RadioInv, regs, params, mode]
  | probe | tick => simpa [RadioInv] using h
  | txcycle ready rests pri aux kind sel => exact .txcycleStep ready rests pri aux kind sel
  | listenStep listening => exact h.listenStep listening.1
  | rxpoll ready rests =>
    exact .receiver (by rw [State.rxpollStep_params, ready.1])
      (State.rxpollStep_radioListening (by simpa [State.radioRests, ready.1] using rests))
  | reply ready rests request sel =>
    exact .receiver (by simp [State.reply_params, ready.1])
      (State.reply_radioListening (by simpa [State.radioRests, ready.1] using rests) ..)

/-- Settles O47: every move keeps the mode, a RESET outside a listen window finds the radio at rest, and the host's act
puts it there. -/
theorem stepKeepsRadioMode : Obligations.StepKeepsRadioMode := by
  refine ⟨fun p => by simp [RadioInv, State.resetWith, restingMode, Regs.reset], fun s t h hstep noReset => ?_⟩
  obtain moves | ⟨hreset, rfl⟩ | ⟨idle, rfl⟩ := step_next hstep
  · exact moves.keeps h Move.keeps_radioInv
  · cases hr : s.params.role with
    | rx => simpa [RadioInv, State.pastRequest, hr] using h
    | tx =>
      have outside : s.regs.lsPhase ≠ .listen := fun hp => noReset ⟨hreset, hr, hp⟩
      simpa [RadioInv, State.pastRequest, Regs.reset, hr, outside] using h
  · simp [RadioInv, State.pastRequest, restingMode, idle]

/-! The held status registers (R35). -/

theorem keepsStatus_iff {r u : Regs} :
    KeepsStatus r u ↔ u.lsLastStatusTime = r.lsLastStatusTime ∧ u.statGood = r.statGood ∧
      u.statRating = r.statRating ∧ u.statBatt = r.statBatt :=
  ⟨fun ⟨a, b, c, d⟩ => ⟨a, b, c, d⟩, fun ⟨a, b, c, d⟩ => ⟨a, b, c, d⟩⟩

theorem KeepsStatus.refl (r : Regs) : KeepsStatus r r := ⟨rfl, rfl, rfl, rfl⟩

theorem KeepsStatus.trans {r u v : Regs} (h : KeepsStatus r u) (k : KeepsStatus u v) : KeepsStatus r v :=
  ⟨k.statusTime.trans h.statusTime, k.good.trans h.good, k.rating.trans h.rating, k.batt.trans h.batt⟩

theorem State.reply_keepsStatus (request : Req) (sel : Sel3) (t : Time) (s : State) :
    KeepsStatus s.regs (s.reply request sel t).regs := by
  obtain e | e := State.reply_regs request sel t s <;> simp [e, keepsStatus_iff]

theorem State.rxpollStep_keepsStatus (s : State) : KeepsStatus s.regs s.rxpollStep.regs := by
  obtain e | ⟨cd, r, e, rfl | rfl⟩ := s.rxpollStep_regs <;> simp [e, keepsStatus_iff]

theorem State.txcycleStep_keepsStatus (pri : Primary) (aux : Auxiliary) (kind : CalKind) (sel : Sel3) (s : State) :
    KeepsStatus s.regs (s.txcycleStep pri aux kind sel).regs := by
  by_cases request : decideRequest s.params s.regs s.world.nextClock kind = .none
  · simp [State.txcycleStep_none request, State.txSent, keepsStatus_iff]
  · simp [State.txcycleStep_some request, State.txSent, keepsStatus_iff]

/-- A frame that is no Status frame ends the window without a change of the held status (R160, R161). -/
theorem State.arrive_keepsStatus {B : FrameBytes} {s : State} (h : byteAt B 0 ≠ s.params.types.status) (t : Time) :
    KeepsStatus s.regs (s.arrive B t).regs := by
  simp [State.arrive, processRegs_other (decodeFrame_ne_status h), keepsStatus_iff]

/-! The trace only grows. -/

theorem State.reply_trace (request : Req) (sel : Sel3) (t : Time) (s : State) :
    s.world.trace <+: (s.reply request sel t).world.trace := by
  obtain e | ⟨_, _, e⟩ | ⟨_, _, e⟩ := State.reply_cases request sel t s
  · rw [e]
  · obtain ⟨ok, calls⟩ := e.calls
    exact ⟨_, calls.symm⟩
  · obtain ⟨ok, calls⟩ := e.calls
    exact ⟨_, calls.symm⟩

theorem State.handle_trace (B : FrameBytes) (t : Time) (s : State) :
    s.world.trace <+: (s.handle B t).world.trace := by
  have probed : s.world.trace <+: (s.onRegs (Regs.noteReceive t)).probeCarrier.world.trace := by simp
  obtain e | ⟨request, sel, pri, aux, e⟩ := State.handle_cases B t s <;> rw [e]
  · exact probed
  · rw [State.forward_trace]
    exact (probed.trans (State.reply_trace ..)).trans (List.prefix_append ..)

theorem State.rxpollStep_trace (s : State) : s.world.trace <+: s.rxpollStep.world.trace := by
  cases hB : s.world.callClock.nextReceived with
  | none => simp [State.rxpollStep_none hB]
  | some B =>
    rw [State.rxpollStep_some hB]
    have polled : s.world.trace <+: ((s.onWorld World.callClock).onWorld World.callTryReceive).world.trace := by simp
    exact polled.trans (State.handle_trace ..)

theorem State.txcycleStep_trace (pri : Primary) (aux : Auxiliary) (kind : CalKind) (sel : Sel3) (s : State) :
    s.world.trace <+: (s.txcycleStep pri aux kind sel).world.trace := by
  by_cases request : decideRequest s.params s.regs s.world.nextClock kind = .none
  · simp [State.txcycleStep_none request, State.txSent]
  · simp [State.txcycleStep_some request, State.txSent]

theorem State.arrive_trace (B : FrameBytes) (t : Time) (s : State) :
    s.world.trace <+: (s.arrive B t).world.trace := by
  simp [State.arrive]

/-! Where the held status comes from. -/

/-- The run added calls to the trace, and without a Status frame among the frames they obtained it left the held status
registers as they were. -/
def StatusFromFrames (s t : State) : Prop :=
  ∃ calls, addsCalls s t calls ∧
    ((∀ B ∈ receivedFrames calls, byteAt B 0 ≠ s.params.types.status) → KeepsStatus s.regs t.regs)

theorem StatusFromFrames.of_keeps {s t : State} (trace : s.world.trace <+: t.world.trace)
    (keeps : KeepsStatus s.regs t.regs) : StatusFromFrames s t := by
  obtain ⟨calls, h⟩ := trace
  exact ⟨calls, h.symm, fun _ => keeps⟩

theorem StatusFromFrames.trans {s t u : State} (params : t.params = s.params) (h : StatusFromFrames s t)
    (k : StatusFromFrames t u) : StatusFromFrames s u := by
  obtain ⟨a, ha, keepsA⟩ := h
  obtain ⟨b, hb, keepsB⟩ := k
  refine ⟨a ++ b, by rw [addsCalls, hb, ha, List.append_assoc], fun other => ?_⟩
  rw [receivedFrames_append] at other
  exact (keepsA fun B hB => other B (List.mem_append_left _ hB)).trans
    (keepsB fun B hB => params ▸ other B (List.mem_append_right _ hB))

/-- A LISTENSTEP takes the held status from the Status frame it obtained, or leaves it (R35, R160). -/
theorem StatusFromFrames.listenStep (s : State) : StatusFromFrames s s.listenStep := by
  by_cases expired : s.regs.listenExpired s.params s.world.nextClock
  · rw [State.listenStep_expired expired]
    exact .of_keeps (by simp) (by simp [keepsStatus_iff])
  · cases hB : s.world.callClock.nextReceived with
    | none =>
      rw [State.listenStep_none expired hB]
      exact .of_keeps (by simp) (.refl _)
    | some B =>
      rw [State.listenStep_some expired hB]
      have polled : addsCalls s ((s.onWorld World.callClock).onWorld World.callTryReceive)
          [.clockNow s.world.nextClock, .radioTryReceive (some B)] := by simp [addsCalls, hB]
      obtain ⟨rest, ends⟩ := State.arrive_trace B s.world.nextClock
        ((s.onWorld World.callClock).onWorld World.callTryReceive)
      refine ⟨[.clockNow s.world.nextClock, .radioTryReceive (some B)] ++ rest, ?_, fun other => ?_⟩
      · rw [addsCalls, ← ends, polled, List.append_assoc]
      · exact State.arrive_keepsStatus (s := (s.onWorld World.callClock).onWorld World.callTryReceive)
          (other B (by simp [receivedFrames, Event.receivedFrame])) _

/-- Every move takes the held status from a Status frame it obtained, or leaves it. -/
theorem Move.statusFromFrames {s t : State} (m : Move s t) : StatusFromFrames s t := by
  cases m with
  | outside regs _ trace => exact .of_keeps (by rw [trace]) (regs ▸ .refl _)
  | probe | tick => exact .of_keeps List.prefix_rfl (by simp [keepsStatus_iff])
  | txcycle => exact .of_keeps (State.txcycleStep_trace ..) (State.txcycleStep_keepsStatus ..)
  | listenStep => exact .listenStep s
  | rxpoll => exact .of_keeps s.rxpollStep_trace s.rxpollStep_keepsStatus
  | reply _ _ request sel =>
    have sampled : s.world.trace <+: (s.onWorld World.callClock).world.trace := by simp
    exact .of_keeps (sampled.trans (State.reply_trace ..))
      (State.reply_keepsStatus request sel _ (s.onWorld World.callClock))

theorem Moves.statusFromFrames {s t : State} (m : Moves s t) : StatusFromFrames s t := by
  induction m using Relation.ReflTransGen.head_induction_on with
  | refl => exact .of_keeps List.prefix_rfl (.refl _)
  | head first _ ih => exact first.statusFromFrames.trans first.params_eq ih

/-- Settles O50: an instruction but RESET is a run of moves. -/
theorem onlyStatusFramesChangeHeldStatus : Obligations.OnlyStatusFramesChangeHeldStatus :=
  fun _ _ _ h hi => (exec_moves h hi).statusFromFrames

/-! The step table of R28. -/

/-- Settles O52, operation by operation. -/
theorem stepTableOfPhases : Obligations.StepTableOfPhases := by
  intro s radio
  refine ⟨fun cd => ⟨?_, fun t h => ?_⟩, fun now => ⟨?_, fun t h => ?_⟩,
    fun pri aux kind sel => ⟨?_, fun t h => ?_⟩, fun listening => ⟨?_, fun t h => ?_⟩, ?_, fun t h => ?_,
    ⟨_, rfl, rfl⟩⟩
  · simp [exec_probe_next]
  · obtain ⟨idle, rfl⟩ := exec_probe_next.1 h
    simpa using idle
  · simp [exec_tick_next]
  · obtain ⟨idle, rfl⟩ := exec_tick_next.1 h
    simpa using idle
  · exact ⟨fun ready => ⟨_, exec_txcycle_ready ready (radio.rests ready.2) pri aux kind sel⟩,
      fun ⟨t, h⟩ => (State.guarded_next.1 h).1⟩
  · obtain ⟨ready, -, rfl⟩ := State.guarded_next.1 h
    exact State.txcycleStep_lsPhase ready.2 pri aux kind sel
  · simp [exec_listenstep_next, State.txListening, listening]
  · obtain ⟨idle, -⟩ | ⟨-, rfl⟩ := exec_listenstep_next.1 h
    · simp [listening] at idle
    · simpa [elapsed] using State.listenStep_lsPhase listening
  · exact ⟨fun ready => ⟨_, exec_rxpoll_ready ready (radio.rests ready.2)⟩,
      fun ⟨t, h⟩ => (State.guarded_next.1 h).1⟩
  · obtain ⟨ready, -, rfl⟩ := State.guarded_next.1 h
    exact s.rxpollStep_lsPhase.trans ready.2

/-! What stands on the inputs of a step. -/

/-- A decoded instruction is executed after its entry is used up, unless the host waits (R98, R103). -/
theorem step_of_decode {s : State} {i : Instr} (go : ¬ s.hostWaits)
    (h : decode s.params.types s.presented = .ok i) : step s = exec i s.pastRequest := by
  rw [step, if_neg go, h]

/-- Settles O15: with nothing lined up the entry is no request, which no host waits with and which reads as
LISTENSTEP. -/
theorem stepRunsDecodedInstruction : Obligations.StepRunsDecodedInstruction := by
  intro s
  refine ⟨fun i go h => step_of_decode go h, fun p rest h => by rw [State.presented, h]; rfl, fun empty => ?_⟩
  have none : s.presented = Presented.noRequest := by rw [State.presented, empty]; rfl
  have past : s.pastRequest = s := by cases s; simp_all [State.pastRequest]
  have go : ¬ s.hostWaits := by simp [State.hostWaits, none, Presented.noRequest, Presented.isHostAct]
  exact ⟨none, by rw [step_of_decode go (i := .listenstep) (by rw [none]; rfl), past]⟩

/-- Settles O43: RESET writes the constant `Regs.reset`, and so does power-on. -/
theorem resetClearsEveryRegister : Obligations.ResetClearsEveryRegister := by
  rintro s r rfl
  exact ⟨rfl, rfl⟩

end Sys2Proof.Machine

/-! The frames and the calls of a run (spec/20_memory.md): which frames it obtains, that its calls keep the half-duplex
rule, and what of it reaches the other endpoint over the link. -/

namespace Sys2Proof.Machine

/-! Runs of calls. -/

/-- These calls obtain these frames, keep the half-duplex rule for a radio that begins in the mode `before`, and leave
it in the mode `after` (R41, R70). -/
structure CallsExchange (before : Bool) (frames : List FrameBytes) (after : Bool) (calls : List Event) : Prop where
  received : receivedFrames calls = frames
  fits     : halfDuplex before calls = true
  mode     : modeAfterAll before calls = after

theorem CallsExchange.append {before between after : Bool} {frames more : List FrameBytes} {calls rest : List Event}
    (h : CallsExchange before frames between calls) (k : CallsExchange between more after rest) :
    CallsExchange before (frames ++ more) after (calls ++ rest) where
  received := by rw [receivedFrames_append, h.received, k.received]
  fits := by rw [halfDuplex_append, h.fits, h.mode, k.fits]; rfl
  mode := by rw [modeAfterAll_append, h.mode, k.mode]

theorem CallsExchange.finishCalls (p : Params) (cd mode : Bool) : CallsExchange mode [] mode (finishCalls p cd) := by
  obtain ⟨after, fits, received, -⟩ := finishCalls_quiet p cd mode
  exact ⟨received, fits, after⟩

theorem CallsExchange.processCalls (f : Frame) (mode : Bool) : CallsExchange mode [] mode (processCalls f) := by
  obtain ⟨after, fits, received, -⟩ := processCalls_quiet f mode
  exact ⟨received, fits, after⟩

theorem CallsExchange.actuatorCalls (p : Params) (pri : Primary) (aux : Auxiliary) (mode : Bool) :
    CallsExchange mode [] mode (actuatorCalls p pri aux) := by
  obtain ⟨after, fits, received, -⟩ := actuatorCalls_quiet p pri aux mode
  exact ⟨received, fits, after⟩

/-- The reply bracket sends in transmitting mode and ends in listening mode, whatever it reads (R188). -/
theorem CallsExchange.replyCalls {read : Event} (quiet : CallsExchange false [] false [read]) (ty : FrameTypes)
    (f : Frame) (ok : Bool) : CallsExchange true [] true (replyCalls ty read f ok) :=
  have opens : CallsExchange true [] false [.radioSetListening false] := ⟨rfl, rfl, rfl⟩
  have sends : CallsExchange false [] true [.radioSend (encodeFrame ty f) ok, .radioSetListening true] :=
    ⟨rfl, rfl, rfl⟩
  (opens.append quiet).append sends

/-! The exchange of a part of a step. -/

/-- From `s` to `t` the block makes calls that obtain these frames and keep the half-duplex rule; the modes are those of
the two states. -/
def Exchanges (frames : List FrameBytes) (s t : State) : Prop :=
  ∃ calls, addsCalls s t calls ∧ CallsExchange s.world.radioListening frames t.world.radioListening calls

theorem addsCalls_trans {s t u : State} {a b : List Event} (h : addsCalls s t a) (k : addsCalls t u b) :
    addsCalls s u (a ++ b) := by
  rw [addsCalls, k, h, List.append_assoc]

/-- A run that makes no call and leaves the radio's mode. -/
theorem Exchanges.of_noCall {s t : State} (trace : t.world.trace = s.world.trace)
    (mode : t.world.radioListening = s.world.radioListening) : Exchanges [] s t :=
  ⟨[], by simp [addsCalls, trace], rfl, rfl, mode.symm⟩

theorem Exchanges.trans {s t u : State} {frames more : List FrameBytes} (h : Exchanges frames s t)
    (k : Exchanges more t u) : Exchanges (frames ++ more) s u := by
  obtain ⟨a, addsA, exchangeA⟩ := h
  obtain ⟨b, addsB, exchangeB⟩ := k
  exact ⟨a ++ b, addsCalls_trans addsA addsB, exchangeA.append exchangeB⟩

/-- From `s` to `t` the block does not poll its radio: no frame is obtained and none leaves the radio. -/
structure Silent (s t : State) : Prop where
  exchange : Exchanges [] s t
  frames   : leavesRadioFrames s t

theorem Silent.of_world {s t : State} (world : t.world = s.world) : Silent s t :=
  ⟨.of_noCall (by rw [world]) (by rw [world]), by rw [leavesRadioFrames, world]; exact ⟨rfl, rfl⟩⟩

theorem Silent.trans {s t u : State} (h : Silent s t) (k : Silent t u) : Silent s u where
  exchange := h.exchange.trans k.exchange
  frames := by
    obtain ⟨held, received⟩ := h.frames
    obtain ⟨held', received'⟩ := k.frames
    exact ⟨held'.trans held, received'.trans received⟩

theorem Silent.callClock (s : State) : Silent s (s.onWorld World.callClock) :=
  ⟨⟨[_], rfl, rfl, rfl, rfl⟩, rfl, rfl⟩

theorem Silent.callSetListening (on : Bool) (s : State) : Silent s (s.onWorld (World.callSetListening on)) :=
  ⟨⟨[_], rfl, rfl, rfl, rfl⟩, rfl, rfl⟩

theorem Silent.probeCarrier (s : State) : Silent s s.probeCarrier := ⟨⟨[_], rfl, rfl, rfl, rfl⟩, rfl, rfl⟩

theorem Silent.finish (t : Time) (s : State) : Silent s (s.finish t) :=
  ⟨⟨_, s.finish_trace t, by simpa using .finishCalls s.params s.world.nextCarrier _⟩,
    by simp [leavesRadioFrames]⟩

theorem Silent.process (f : Frame) (t : Time) (s : State) : Silent s (s.process f t) :=
  ⟨⟨_, s.process_trace f t, by simpa using .processCalls f _⟩, by simp [leavesRadioFrames]⟩

theorem Silent.forward (pri : Primary) (aux : Auxiliary) (s : State) : Silent s (s.forward pri aux) :=
  ⟨⟨_, s.forward_trace pri aux, by simpa using .actuatorCalls s.params pri aux _⟩, by simp [leavesRadioFrames]⟩

theorem Silent.endCycle (t : Time) (s : State) : Silent s (s.endCycle t) :=
  (callSetListening false s).trans ((finish t _).trans (.of_world rfl))

theorem Silent.arrive (B : FrameBytes) (t : Time) (s : State) : Silent s (s.arrive B t) :=
  have noted : Silent s ((s.onRegs (Regs.noteReceive t)).onRegs (Regs.noteLatency t)) := .of_world rfl
  noted.trans ((process ..).trans (endCycle t _))

/-- A reply polls for nothing: it sends in the mode its bracket sets (R188). -/
theorem RepliesWith.silent {read : Event} {f : Frame} {t : Time} {s u : State} (h : RepliesWith read f t s u)
    (quiet : CallsExchange false [] false [read]) (mode : s.world.radioListening = true) : Silent s u := by
  obtain ⟨ok, adds⟩ := h.calls
  exact ⟨⟨_, adds, by simpa only [mode, h.mode] using .replyCalls quiet s.params.types f ok⟩, h.frames⟩

theorem Silent.reply {s : State} (mode : s.world.radioListening = true) (request : Req) (sel : Sel3) (t : Time) :
    Silent s (s.reply request sel t) := by
  obtain e | ⟨_, _, e⟩ | ⟨_, _, e⟩ := State.reply_cases request sel t s
  · exact .of_world (by rw [e])
  · exact e.silent ⟨rfl, rfl, rfl⟩ mode
  · exact e.silent ⟨rfl, rfl, rfl⟩ mode

theorem Silent.handle {s : State} (mode : s.world.radioListening = true) (B : FrameBytes) (t : Time) :
    Silent s (s.handle B t) := by
  have probed : Silent s (s.onRegs (Regs.noteReceive t)).probeCarrier :=
    (of_world (s := s) (t := s.onRegs (Regs.noteReceive t)) rfl).trans (probeCarrier _)
  obtain e | ⟨request, sel, pri, aux, e⟩ := State.handle_cases B t s <;> rw [e]
  · exact probed
  · exact probed.trans ((reply (s := (s.onRegs (Regs.noteReceive t)).probeCarrier) mode request sel t).trans
      (forward pri aux _))

/-- TXCYCLE sends in transmitting mode and does not poll (R150). -/
theorem Silent.txcycleStep {s : State} (mode : s.world.radioListening = false) (pri : Primary) (aux : Auxiliary)
    (kind : CalKind) (sel : Sel3) : Silent s (s.txcycleStep pri aux kind sel) := by
  have sent : Silent s (s.txSent pri aux kind sel) :=
    ⟨⟨[_, _], List.append_assoc .., by rw [mode]; exact ⟨rfl, rfl, mode.symm⟩⟩, rfl, rfl⟩
  by_cases request : decideRequest s.params s.regs s.world.nextClock kind = .none
  · rw [State.txcycleStep_none request]
    exact sent.trans (finish _ _)
  · rw [State.txcycleStep_some request]
    exact sent.trans ((callSetListening true _).trans (.of_world rfl))

/-! A step that polls. -/

/-- The state after the clock sample and the poll with which RXPOLL and an open listen window begin (R156, R180). -/
def State.polled (s : State) : State := (s.onWorld World.callClock).onWorld World.callTryReceive

/-- From `s` to `t` the block samples its clock and polls its radio once. -/
def Polls (s t : State) : Prop := Silent s.polled t

/-- The two calls obtain what the radio has next, and keep the half-duplex rule in listening mode. -/
theorem State.polled_calls (s : State) :
    addsCalls s s.polled [.clockNow s.world.nextClock, .radioTryReceive s.world.callClock.nextReceived] ∧
    CallsExchange true s.world.callClock.nextReceived.toList true
      [.clockNow s.world.nextClock, .radioTryReceive s.world.callClock.nextReceived] := by
  refine ⟨by simp [addsCalls, State.polled], ?_, rfl, rfl⟩
  cases s.world.callClock.nextReceived <;> rfl

/-- A step that polls obtains exactly what its radio has next. -/
theorem Polls.obtains {s t : State} (h : Polls s t) :
    ∃ calls, addsCalls s t calls ∧ receivedFrames calls = s.world.callClock.nextReceived.toList := by
  obtain ⟨adds, exchange⟩ := s.polled_calls
  obtain ⟨rest, addsRest, rest_exchange⟩ := h.exchange
  exact ⟨_, addsCalls_trans adds addsRest, by
    rw [receivedFrames_append, exchange.received, rest_exchange.received, List.append_nil]⟩

theorem Polls.exchanges {s t : State} (h : Polls s t) (mode : s.world.radioListening = true) :
    Exchanges s.world.callClock.nextReceived.toList s t := by
  obtain ⟨adds, exchange⟩ := s.polled_calls
  have polled : Exchanges s.world.callClock.nextReceived.toList s s.polled :=
    ⟨_, adds, by simpa only [State.polled, State.onWorld_world, World.callTryReceive_radioListening,
      World.callClock_radioListening, mode] using exchange⟩
  simpa using polled.trans h.exchange

/-- The poll uses up the answer it obtained (R41, R64). -/
theorem Polls.usesUp {s t : State} (h : Polls s t) : usesUpPoll s t := by
  obtain ⟨held, received⟩ := h.frames
  exact ⟨by simp [held, State.polled], by simp [received, State.polled]⟩

theorem State.rxpollStep_polls {s : State} (mode : s.world.radioListening = true) : Polls s s.rxpollStep := by
  cases hB : s.world.callClock.nextReceived with
  | none =>
    rw [State.rxpollStep_none hB]
    exact Silent.of_world rfl
  | some B =>
    rw [State.rxpollStep_some hB]
    have listening : s.polled.world.radioListening = true := by simpa [State.polled] using mode
    exact (Silent.handle listening B _).trans (.of_world rfl)

theorem State.listenStep_polls {s : State} (inside : ¬ s.regs.listenExpired s.params s.world.nextClock) :
    Polls s s.listenStep := by
  cases hB : s.world.callClock.nextReceived with
  | none =>
    rw [State.listenStep_none inside hB]
    exact Silent.of_world rfl
  | some B =>
    rw [State.listenStep_some inside hB]
    exact Silent.arrive B _ _

/-- An expired window is not polled (R157). -/
theorem State.listenStep_silent {s : State} (expired : s.regs.listenExpired s.params s.world.nextClock) :
    Silent s s.listenStep := by
  rw [State.listenStep_expired expired]
  exact (Silent.callClock s).trans (.endCycle _ _)

/-! Every instruction but RESET, move by move. -/

/-- Every move polls its radio once, in listening mode where the radio is in its mode, or obtains no frame. -/
theorem Move.silent_or_polls {s t : State} (m : Move s t) :
    Exchanges [] s t ∨ Polls s t ∧ (RadioInv s → s.world.radioListening = true) := by
  cases m with
  | outside _ _ trace mode => exact .inl (.of_noCall trace mode)
  | probe | tick => exact .inl (Silent.of_world rfl).exchange
  | txcycle ready rests pri aux kind sel =>
    have mode : s.world.radioListening = false := by simpa [State.radioRests, ready.1] using rests
    exact .inl (Silent.txcycleStep mode pri aux kind sel).exchange
  | listenStep listening =>
    by_cases expired : s.regs.listenExpired s.params s.world.nextClock
    · exact .inl (State.listenStep_silent expired).exchange
    · exact .inr ⟨State.listenStep_polls expired, fun h => by simpa [RadioInv, listening.2] using h⟩
  | rxpoll ready rests =>
    have mode : s.world.radioListening = true := by simpa [State.radioRests, ready.1] using rests
    exact .inr ⟨State.rxpollStep_polls mode, fun _ => mode⟩
  | reply ready rests request sel =>
    have mode : s.world.radioListening = true := by simpa [State.radioRests, ready.1] using rests
    exact .inl ((Silent.callClock s).trans (.reply (s := s.onWorld World.callClock) mode request sel _)).exchange

theorem Move.exchanges {s t : State} (m : Move s t) (h : RadioInv s) : ∃ frames, Exchanges frames s t := by
  obtain silent | ⟨polls, mode⟩ := m.silent_or_polls
  · exact ⟨_, silent⟩
  · exact ⟨_, polls.exchanges (mode h)⟩

theorem Moves.exchanges {s t : State} (m : Moves s t) (h : RadioInv s) : ∃ frames, Exchanges frames s t := by
  induction m using Relation.ReflTransGen.head_induction_on with
  | refl => exact ⟨_, .of_noCall rfl rfl⟩
  | head first _ ih =>
    obtain ⟨_, one⟩ := first.exchanges h
    obtain ⟨_, rest⟩ := ih (first.keeps_radioInv h)
    exact ⟨_, one.trans rest⟩

/-- Settles O48: RESET makes no call, and every other instruction is a run of moves, each of which finds the radio in
its mode. -/
theorem halfDuplexDiscipline : Obligations.HalfDuplexDiscipline := by
  intro i s t radio h
  by_cases hi : i = .reset
  · subst hi
    obtain rfl := next_inj h
    exact ⟨[], by simp [addsCalls], rfl⟩
  · obtain ⟨_, calls, adds, exchange⟩ := (exec_moves h hi).exchanges radio
    exact ⟨calls, adds, exchange.fits⟩

/-- Settles O49: RESET writes registers only, and no move changes a parameter. -/
theorem parametersNeverChange : Obligations.ParametersNeverChange := by
  intro i s t h
  by_cases hi : i = .reset
  · subst hi
    rw [← next_inj h, State.onRegs_params]
  · exact (exec_moves h hi).keeps (P := fun u => u.params = s.params) rfl fun m kept => m.params_eq.trans kept

/-! Frames as instructions. -/

/-- A frame at a transmitter in `IDLE` is left with the radio (R155, log 7). -/
theorem frameAtRadio_idle {s : State} (h : s.txReady) (B : FrameBytes) :
    frameAtRadio B s = .next (s.onWorld (World.leaveFrame B)) := by
  simp only [frameAtRadio, h.1, h.2]

/-- A frame at a transmitter whose window has expired is left with the radio (R157, log 7). -/
theorem frameAtRadio_expired {s : State} (h : s.txListening)
    (expired : s.regs.listenExpired s.params s.world.nextClock) (B : FrameBytes) :
    frameAtRadio B s = .next (s.listenStep.onWorld (World.leaveFrame B)) := by
  simp only [frameAtRadio, h.1, h.2, if_pos expired]

/-- An expired window leaves alone what `sameSetting` names. -/
theorem State.listenStep_expired_sameSetting {s : State}
    (expired : s.regs.listenExpired s.params s.world.nextClock) : sameSetting s s.listenStep := by
  simp [State.listenStep_expired expired, sameSetting]

/-- Settles O41: the frame is left with the radio, in `IDLE` alone and in an expired window after the LISTENSTEP. -/
theorem unpolledFrameStaysOrIsLost : Obligations.UnpolledFrameStaysOrIsLost := by
  intro s i B hr encoded
  rw [exec_frame encoded]
  refine ⟨fun idle => ⟨_, frameAtRadio_idle ⟨hr, idle⟩ B, frameJoins_leaveFrame B s⟩,
    fun listening expired => ?_⟩
  obtain ⟨held, received⟩ := (State.listenStep_silent expired).frames
  exact ⟨_, _, exec_listenstep_listening ⟨hr, listening⟩, frameAtRadio_expired ⟨hr, listening⟩ expired B,
    frameJoins_leaveFrame B _, State.listenStep_expired_sameSetting expired, received,
    held ▸ World.leaveFrame_radioHeld B s.listenStep.world⟩

/-- A frame that reaches a radio with older ones joins them or is lost, and nothing else has changed (R70). -/
theorem frameJoins_arriveFrame {s : State} (older : s.world.radioHeld ≠ []) (B : FrameBytes) :
    frameJoins B s (s.onWorld (World.arriveFrame B)) := by
  have behind : s.onWorld (World.arriveFrame B) = s.onWorld (World.leaveFrame B) := by
    simp only [State.onWorld, World.arriveFrame_behind older]
  rw [behind]
  exact frameJoins_leaveFrame B s

/-- A frame that joins older ones leaves the oldest of them the next to be obtained (R68, R208). -/
theorem frameJoins.nextReceived {s u : State} {A B : FrameBytes} {rest : List FrameBytes} (h : frameJoins B s u)
    (held : s.world.radioHeld = A :: rest) : u.world.callClock.nextReceived = some A := by
  obtain ⟨-, -, -, -, -, unchanged | behind⟩ := h
  · exact World.nextReceived_held (by rw [World.callClock_radioHeld, unchanged, held])
  · exact World.nextReceived_held (by rw [World.callClock_radioHeld, behind, held]; rfl)

/-- The poll after a frame has joined older ones obtains the oldest and uses it up. -/
theorem Polls.obtains_oldest {s u t : State} {A B : FrameBytes} {rest : List FrameBytes} (h : Polls u t)
    (joins : frameJoins B s u) (held : s.world.radioHeld = A :: rest) :
    ∃ calls, addsCalls s t calls ∧ receivedFrames calls = [A] ∧ usesUpPoll u t := by
  obtain ⟨calls, adds, received⟩ := h.obtains
  rw [joins.nextReceived held] at received
  obtain ⟨-, -, trace, -⟩ := joins
  exact ⟨calls, by rw [addsCalls, adds, trace], received, h.usesUp⟩

/-- Settles O59: the endpoint polls the radio that the frame has joined. -/
theorem frameWaitsBehindHeldFrames : Obligations.FrameWaitsBehindHeldFrames := by
  intro s i A B rest encoded held
  have joins : frameJoins B s (s.onWorld (World.arriveFrame B)) := frameJoins_arriveFrame (by simp [held]) B
  rw [exec_frame encoded]
  refine ⟨fun hr idle mode => ?_, fun hr listening inside => ?_⟩
  · have mode' : (s.onWorld (World.arriveFrame B)).world.radioListening = true := by simpa using mode
    obtain ⟨calls, polled⟩ := (State.rxpollStep_polls mode').obtains_oldest joins held
    exact ⟨_, _, calls, joins, exec_rxpoll_ready ⟨hr, idle⟩ (State.rxRests hr mode'),
      frameAtRadio_receiver ⟨hr, idle⟩ (State.rxRests hr mode) B, polled⟩
  · have isOpen : ¬ s.regs.listenExpired s.params s.world.nextClock := Nat.not_le.2 inside
    have polls : Polls (s.onWorld (World.arriveFrame B)) (s.onWorld (World.arriveFrame B)).listenStep :=
      State.listenStep_polls (by simpa using isOpen)
    obtain ⟨calls, polled⟩ := polls.obtains_oldest joins held
    exact ⟨_, _, calls, joins, exec_listenstep_listening ⟨hr, listening⟩,
      frameAtRadio_listening ⟨hr, listening⟩ isOpen B, polled⟩

/-! The two-endpoint system (R68, R216). -/

/-- A step of R28 makes at most one move, and writes the surroundings in that move only. -/
theorem exec_isStep_move {i : Instr} {s t : State} (hi : Instr.isStep i = true) (h : exec i s = .next t) :
    ∃ u, Move s u ∧ t.world = u.world := by
  cases i with
  | probe cd =>
    obtain ⟨idle, rfl⟩ := exec_probe_next.1 h
    exact ⟨_, .probe idle cd, rfl⟩
  | tick now =>
    obtain ⟨idle, rfl⟩ := exec_tick_next.1 h
    exact ⟨_, .tick idle now, rfl⟩
  | txcycle pri aux kind sel =>
    obtain ⟨ready, rests, rfl⟩ := State.guarded_next.1 h
    exact ⟨_, .txcycle ready rests pri aux kind sel, rfl⟩
  | rxpoll =>
    obtain ⟨ready, rests, rfl⟩ := State.guarded_next.1 h
    exact ⟨_, .rxpoll ready rests, rfl⟩
  | listenstep =>
    obtain ⟨-, rfl⟩ | ⟨listening, rfl⟩ := exec_listenstep_next.1 h
    · exact ⟨s, .outside rfl rfl rfl rfl, rfl⟩
    · exact ⟨_, .listenStep listening, rfl⟩
  | reset =>
    obtain rfl := next_inj h
    exact ⟨s, .outside rfl rfl rfl rfl, rfl⟩
  | frameUnknown | frameUnassigned | frameControl | frameStatus | frameCalibGet | frameCalibSet | reqNone | reqStatus
    | reqCalibGet | reqCalibSet | codecEncode | codecDecode | cycle => cases hi

/-- A move obtains what the radio has next, or nothing. -/
theorem Move.obtains {s t : State} (m : Move s t) :
    ∃ calls, addsCalls s t calls ∧ receivedFrames calls <+: s.world.callClock.nextReceived.toList := by
  obtain ⟨calls, adds, exchange⟩ | ⟨polls, -⟩ := m.silent_or_polls
  · exact ⟨calls, adds, by simp [exchange.received]⟩
  · obtain ⟨calls, adds, received⟩ := polls.obtains
    exact ⟨calls, adds, by rw [received]⟩

/-- What a radio has to hand over is the oldest frame on the way, or nothing. -/
theorem linkOffer_prefix (deliver : Bool) (incoming : List FrameBytes) :
    (linkOffer deliver incoming).toList <+: incoming := by
  cases deliver <;> cases incoming <;> simp [linkOffer]

theorem newFrames_append (before more : List FrameBytes) : newFrames before (before ++ more) = more :=
  List.drop_left

/-- What a step of an endpoint can do to the link: it obtains frames from the front of those on the way to it, and puts
frames behind those on the way to the other (R68, R206). -/
theorem endpointStep_next {i : Instr} {deliver : Bool} {s t : State} {incoming outgoing incoming' outgoing' :
      List FrameBytes} (h : endpointStep i deliver s incoming outgoing = .next (t, incoming', outgoing')) :
    ∃ obtained launched,
      receivedFrames t.world.trace = receivedFrames s.world.trace ++ obtained ∧ incoming = obtained ++ incoming' ∧
      launchedFrames t.world.trace = launchedFrames s.world.trace ++ launched ∧ outgoing' = outgoing ++ launched := by
  unfold endpointStep at h
  split at h
  case isFalse => cases h
  case isTrue hi =>
    split at h
    case h_2 | h_3 => cases h
    case h_1 v hv =>
      injection h with h
      obtain ⟨rfl, rfl, rfl⟩ := h
      obtain ⟨u, move, world⟩ := exec_isStep_move hi hv
      obtain ⟨calls, adds, obtained⟩ := move.obtains
      have trace : v.world.trace = s.world.trace ++ calls := by rw [world]; exact adds
      obtain ⟨rest, rfl⟩ : receivedFrames calls <+: incoming :=
        obtained.trans (linkOffer_prefix deliver incoming)
      refine ⟨receivedFrames calls, launchedFrames calls, ?_, ?_, ?_, ?_⟩
      · simp [trace, receivedFrames_append]
      · simp [trace, receivedFrames_append, newFrames_append]
      · simp [trace, launchedFrames_append]
      · simp [trace, launchedFrames_append, newFrames_append]

/-- A step of an endpoint keeps both directions of its link to the other endpoint, `peer`. -/
theorem endpointStep_keeps_link {i : Instr} {deliver : Bool} {s t peer : State} {incoming outgoing incoming' outgoing' :
      List FrameBytes} (h : endpointStep i deliver s incoming outgoing = .next (t, incoming', outgoing'))
    (towards : (receivedFrames s.world.trace ++ incoming).Sublist (launchedFrames peer.world.trace))
    (away : (receivedFrames peer.world.trace ++ outgoing).Sublist (launchedFrames s.world.trace)) :
    (receivedFrames t.world.trace ++ incoming').Sublist (launchedFrames peer.world.trace) ∧
    (receivedFrames peer.world.trace ++ outgoing').Sublist (launchedFrames t.world.trace) := by
  obtain ⟨obtained, launched, received, rfl, launches, rfl⟩ := endpointStep_next h
  refine ⟨by rwa [received, List.append_assoc], ?_⟩
  rw [launches, ← List.append_assoc]
  exact away.append_right launched

/-- The host's act on the radio is no call of the block (R12, R233). -/
theorem State.restoreRadio_trace {s t : State} (h : s.restoreRadio = .next t) : t.world.trace = s.world.trace := by
  obtain ⟨-, rfl⟩ := State.restoreRadio_next h
  rfl

/-- A frame lost on the way leaves a subsequence (R68). -/
theorem sublist_of_loss {received onWay launched : List FrameBytes} (h : (received ++ onWay).Sublist launched)
    (place : Nat) : (received ++ onWay.eraseIdx place).Sublist launched :=
  ((List.eraseIdx_sublist onWay place).append_left received).trans h

/-- Every event of the system keeps the link (R68, R206). -/
theorem LinkInv.step {ev : SystemEvent} {y z : System} (h : LinkInv y) (hz : System.step ev y = .next z) :
    LinkInv z := by
  obtain ⟨towardsRx, towardsTx⟩ := h
  cases ev with
  | stepOf e i deliver =>
    cases e with
    | tx =>
      simp only [System.step] at hz
      split at hz <;> cases hz
      obtain ⟨towards, away⟩ := endpointStep_keeps_link ‹_› towardsTx towardsRx
      exact ⟨away, towards⟩
    | rx =>
      simp only [System.step] at hz
      split at hz <;> cases hz
      obtain ⟨towards, away⟩ := endpointStep_keeps_link ‹_› towardsRx towardsTx
      exact ⟨towards, away⟩
  | loseTowards e place =>
    cases e with
    | tx =>
      cases hz
      exact ⟨towardsRx, sublist_of_loss towardsTx place⟩
    | rx =>
      cases hz
      exact ⟨sublist_of_loss towardsRx place, towardsTx⟩
  | restoreRadioOf e =>
    cases e <;> simp only [System.step] at hz <;> split at hz <;> cases hz
    all_goals
      have kept := State.restoreRadio_trace ‹_›
      exact ⟨kept ▸ towardsRx, kept ▸ towardsTx⟩

/-- The frames obtained are a subsequence of the frames sent (R68). -/
theorem LinkInv.received_sublist_sent {y : System} (h : LinkInv y) :
    (receivedFrames y.rx.world.trace).Sublist (sentFrames y.tx.world.trace) ∧
    (receivedFrames y.tx.world.trace).Sublist (sentFrames y.rx.world.trace) :=
  ⟨((List.sublist_append_left ..).trans h.towardsRx).trans (launchedFrames_sublist _),
    ((List.sublist_append_left ..).trans h.towardsTx).trans (launchedFrames_sublist _)⟩

/-- Settles O56: nothing is on the way at reset, and every event keeps the link. -/
theorem linkDeliversASubsequence : Obligations.LinkDeliversASubsequence :=
  ⟨⟨.slnil, .slnil⟩, fun _ _ _ h hz => h.step hz, fun _ h => h.received_sublist_sent⟩

end Sys2Proof.Machine

/-! What stands on the inputs and its frames (spec/30_encoding.md): the encoder's presentation is read back, and the
decoder ignores padding and reserved bits. -/

namespace Sys2Proof

/-- Settles O12: the round trip of each row, the frame rows by the codec's. -/
theorem presentedInstructionRoundTrip : Obligations.PresentedInstructionRoundTrip := by
  intro ty i hw hi
  cases i with
  | frameUnknown => exact Laws.RoundTrip.frameUnknown ty hw hi
  | frameUnassigned type => exact Laws.RoundTrip.frameUnassigned type ty hw hi
  | frameControl request sel pri aux => exact Laws.RoundTrip.frameControl request sel pri aux ty hw hi
  | frameStatus good rating batt => exact Laws.RoundTrip.frameStatus good rating batt ty hw hi
  | frameCalibGet sel val => exact Laws.RoundTrip.frameCalibGet sel val ty hw hi
  | frameCalibSet sel val => exact Laws.RoundTrip.frameCalibSet sel val ty hw hi
  | reqNone sel => exact Laws.RoundTrip.reqNone sel ty hw hi
  | reqStatus sel => exact Laws.RoundTrip.reqStatus sel ty hw hi
  | reqCalibGet sel => exact Laws.RoundTrip.reqCalibGet sel ty hw hi
  | reqCalibSet sel => exact Laws.RoundTrip.reqCalibSet sel ty hw hi
  | probe cd => exact Laws.RoundTrip.probe cd ty hw hi
  | tick now => exact Laws.RoundTrip.tick now ty hw hi
  | txcycle pri aux kind sel => exact Laws.RoundTrip.txcycle pri aux kind sel ty hw hi
  | rxpoll => exact Laws.RoundTrip.rxpoll ty hw hi
  | listenstep => exact Laws.RoundTrip.listenstep ty hw hi
  | reset => exact Laws.RoundTrip.reset ty hw hi
  | codecEncode f => exact Laws.RoundTrip.codecEncode f ty hw hi
  | codecDecode bytes => exact Laws.RoundTrip.codecDecode bytes ty hw hi
  | cycle pri aux kind sel => exact Laws.RoundTrip.cycle pri aux kind sel ty hw hi

/-! Padding and reserved bits (R84). -/

/-- `CTRL_FLAGS` is written with its reserved bits 7:5 zero (R86). -/
theorem ctrlFlags_lt (request : Req) (sel : Sel3) : (ctrlFlags request sel).toNat < 32 := by
  have code : Machine.reqNumber request ≤ 3 := by cases request <;> decide
  have := sel.isLt
  rw [ctrlFlags_toNat]
  omega

/-- `STAT_FLAGS` is written with its reserved bits 7:1 zero (R90). -/
theorem statFlags_lt (good : Bool) : (statFlags good).toNat < 2 := by cases good <;> decide

/-- The request is read from the bits below the reserved ones (R86). -/
theorem ctrlRequest_congr {a b : Byte} (h : a.toNat % 32 = b.toNat % 32) : ctrlRequest a = ctrlRequest b := by
  have code : a.extractLsb' 0 2 = b.extractLsb' 0 2 := by
    apply BitVec.eq_of_toNat_eq
    simp only [BitVec.extractLsb'_toNat, Nat.shiftRight_zero]
    omega
  rw [ctrlRequest, code, ctrlRequest]

/-- The selector is read from the bits below the reserved ones (R86). -/
theorem ctrlSel_congr {a b : Byte} (h : a.toNat % 32 = b.toNat % 32) : ctrlSel a = ctrlSel b := by
  apply BitVec.eq_of_toNat_eq
  rw [ctrlSel_toNat, ctrlSel_toNat]
  omega

/-- The majority flag is read from the bit below the reserved ones (R90). -/
theorem statGood_congr {a b : Byte} (h : a.toNat % 2 = b.toNat % 2) : statGood a = statGood b := by
  rw [Bool.eq_iff_iff, statGood_iff, statGood_iff, h]

section
variable {B C : FrameBytes} {off : Nat}

/-- A 16-bit field is read from its two bytes. -/
theorem memRead2_congr (low : byteAt B off = byteAt C off) (high : byteAt B (off + 1) = byteAt C (off + 1)) :
    memRead2 B off = memRead2 C off := by
  rw [memRead2, low, high, memRead2]

/-- A 32-bit field is read from its four bytes. -/
theorem memRead4_congr (h : ∀ k, off ≤ k → k ≤ off + 3 → byteAt B k = byteAt C k) :
    memRead4 B off = memRead4 C off := by
  have low : memRead2 B off = memRead2 C off := memRead2_congr (h _ (by omega) (by omega)) (h _ (by omega) (by omega))
  have high : memRead2 B (off + 2) = memRead2 C (off + 2) :=
    memRead2_congr (h _ (by omega) (by omega)) (h _ (by omega) (by omega))
  rw [memRead4, low, high, memRead4]

/-- The primary channels are read from the bytes 2 to 11 (R85). -/
theorem getPrimary_congr (h : ∀ k, 2 ≤ k → k ≤ 11 → byteAt B k = byteAt C k) : getPrimary B = getPrimary C := by
  have field : ∀ off, 2 ≤ off → off ≤ 10 → memRead2 B off = memRead2 C off := fun off lo hi =>
    memRead2_congr (h _ (by omega) (by omega)) (h _ (by omega) (by omega))
  simp [getPrimary, field]

/-- The auxiliary channels are read from the bytes 12 to 14 (R85). -/
theorem getAuxiliary_congr (h : ∀ k, 12 ≤ k → k ≤ 14 → byteAt B k = byteAt C k) :
    getAuxiliary B = getAuxiliary C := by
  simp [getAuxiliary, h]

/-- The calibration values are read from the bytes 2 to 13 (R91). -/
theorem getCalVals_congr (h : ∀ k, 2 ≤ k → k ≤ 13 → byteAt B k = byteAt C k) : getCalVals B = getCalVals C := by
  have field : ∀ off, 2 ≤ off → off ≤ 12 → memRead2 B off = memRead2 C off := fun off lo hi =>
    memRead2_congr (h _ (by omega) (by omega)) (h _ (by omega) (by omega))
  simp [getCalVals, field]

end

/-- Settles O10: what ENCODE writes variant by variant, what DECODE reads type by type. -/
theorem paddingAndReservedBitsIgnored : Obligations.PaddingAndReservedBitsIgnored := by
  intro ty hw
  constructor
  · rintro f B rfl
    cases f with
    | unknown => exact fun k hk _ => (byteAt_encode_unknown k).trans (if_neg (by omega))
    | control request sel pri aux =>
      have flags : byteAt (encodeFrame ty (.control request sel pri aux)) 1 = ctrlFlags request sel := by
        simp [encodeFrame, byteAt_memWrite1, byteAt_memWrite2]
      exact ⟨flags ▸ ctrlFlags_lt request sel, by simp [encodeFrame, byteAt_memWrite1, byteAt_memWrite2]⟩
    | status good rating batt =>
      have flags : byteAt (encodeFrame ty (.status good rating batt)) 1 = statFlags good := by
        simp [encodeFrame, byteAt_memWrite1, byteAt_memWrite4]
      refine ⟨flags ▸ statFlags_lt good, fun k lo _ => ?_⟩
      rw [encodeFrame, byteAt_memWrite4 _ _ _ _ (by decide) (by omega)]
      repeat rw [byteAt_memWrite1 _ _ _ _ (by decide), if_neg (by omega)]
      exact byteAt_zeroFrame k
    | calibGet sel val | calibSet sel val =>
      constructor <;> simp [encodeFrame, byteAt_putCalVals, byteAt_memWrite1]
  · intro B C same control status calib
    obtain h | h | h | h | h := typeByte_cases ty B
    · obtain ⟨flags, bytes⟩ := control h
      rw [decodeFrame_control h, decodeFrame_control (same ▸ h), ctrlRequest_congr flags, ctrlSel_congr flags,
        getPrimary_congr fun k lo hi => bytes k lo (by omega), getAuxiliary_congr fun k lo hi => bytes k (by omega) hi]
    · obtain ⟨flags, bytes⟩ := status h
      rw [decodeFrame_status hw h, decodeFrame_status hw (same ▸ h), statGood_congr flags,
        bytes 2 (by omega) (by omega), memRead4_congr fun k lo hi => bytes k (by omega) hi]
    · have bytes := calib (.inl h)
      rw [decodeFrame_calibGet hw h, decodeFrame_calibGet hw (same ▸ h), bytes 1 (by omega) (by omega),
        getCalVals_congr fun k lo hi => bytes k (by omega) hi]
    · have bytes := calib (.inr h)
      rw [decodeFrame_calibSet hw h, decodeFrame_calibSet hw (same ▸ h), bytes 1 (by omega) (by omega),
        getCalVals_congr fun k lo hi => bytes k (by omega) hi]
    · rw [decodeFrame_unknown h, decodeFrame_unknown (same ▸ h)]

/-- Settles O13, by evaluation of the decoder on each word. -/
theorem writtenOutWordsDecode : Obligations.WrittenOutWordsDecode := ⟨rfl, rfl, rfl, rfl, rfl⟩

/-- Request lines that are neither zero nor one-hot are no operation (R100). -/
theorem decodeOpreq_severalLines {lines : BitVec 4} (h : lines.toNat ∉ [0, 1, 2, 4, 8]) (inputs : OperandInputs) :
    decodeOpreq lines inputs = .error (.severalLines lines) := by
  have other : ∀ v : BitVec 4, v.toNat ∈ [0, 1, 2, 4, 8] → lines ≠ v := fun v hv e => h (e ▸ hv)
  unfold decodeOpreq
  repeat rw [if_neg (other _ (by decide))]

end Sys2Proof

/-! Requests as steps (spec/30_encoding.md R98 to R103): which are refused, which wait, and what CYCLE stands for. -/

namespace Sys2Proof.Machine

/-- In `IDLE` the host does not wait (R103). -/
theorem State.not_hostWaits_idle {s : State} (idle : s.regs.lsPhase = .idle) : ¬ s.hostWaits := by
  simp [State.hostWaits, idle]

/-- Settles O14: the entry decodes to no operation. -/
theorem severalRequestLinesRefused : Obligations.SeveralRequestLinesRefused := by
  intro s lines inputs several presented go
  have undecodable : decode s.params.types s.presented = .error (.severalLines lines) := by
    rw [presented]
    exact decodeOpreq_severalLines several inputs
  rw [step, if_neg go, undecodable]

/-- TXCYCLE and CYCLE are not enabled at a receiver or in a listen window (R28). -/
theorem State.not_txReady {s : State} (h : s.params.role = .rx ∨ s.regs.lsPhase = .listen) : ¬ s.txReady := by
  obtain h | h := h <;> simp [State.txReady, h]

/-- RXPOLL is not enabled at a transmitter or in a listen window (R28). -/
theorem State.not_rxReady {s : State} (h : s.params.role = .tx ∨ s.regs.lsPhase = .listen) : ¬ s.rxReady := by
  obtain h | h := h <;> simp [State.rxReady, h]

/-- Settles O16: the enabling condition of each operation fails. -/
theorem operationNotEnabledIsRefused : Obligations.OperationNotEnabledIsRefused := by
  intro s
  refine ⟨fun listening cd now => ?_, fun other pri aux kind sel => ?_, fun other => ?_⟩
  · have busy : s.regs.lsPhase ≠ .idle := by simp [listening]
    exact ⟨if_neg busy, if_neg busy⟩
  · exact State.guarded_notEnabled (State.not_txReady other)
  · exact State.guarded_notEnabled (State.not_rxReady other)

/-- Settles O27: `OPREQ` = 0 reads as LISTENSTEP, which does nothing in `IDLE`. -/
theorem noRequestInIdleDoesNothing : Obligations.NoRequestInIdleDoesNothing := by
  intro s idle
  have nothing : ∀ u : State, u.regs.lsPhase = .idle → exec .listenstep u = .next u := fun u h =>
    exec_listenstep_next.2 (.inl ⟨h, rfl⟩)
  refine ⟨fun inputs presented => ?_, nothing s idle⟩
  rw [step_of_decode (i := .listenstep) (State.not_hostWaits_idle idle) (by rw [presented]; rfl)]
  exact nothing s.pastRequest idle

/-- Settles O42: the codec's values are written beside the registers and the surroundings. -/
theorem codecEvaluationHandsBackItsValue : Obligations.CodecEvaluationHandsBackItsValue :=
  fun _ _ _ => ⟨rfl, rfl⟩

/-! LISTENSTEPs until `IDLE`. -/

/-- A LISTENSTEP leaves the entries of the host and how the cycle was begun as they are (R103, R156). -/
theorem State.listenStep_sameSetting (s : State) : sameSetting s s.listenStep := by
  by_cases expired : s.regs.listenExpired s.params s.world.nextClock
  · exact State.listenStep_expired_sameSetting expired
  · cases received : s.world.callClock.nextReceived with
    | none => simp [State.listenStep_none expired received, sameSetting]
    | some B => simp [State.listenStep_some expired received, State.arrive, sameSetting]

/-- LISTENSTEPs until `IDLE` leave it as it is how the cycle was begun (R103). -/
theorem State.listenFor_byCycle (fuel : Nat) (s : State) : (s.listenFor fuel).byCycle = s.byCycle := by
  induction fuel generalizing s with
  | zero => rfl
  | succ fuel ih =>
    unfold State.listenFor
    split
    · obtain ⟨-, -, -, kept⟩ := s.listenStep_sameSetting
      exact (ih s.listenStep).trans kept
    · rfl

/-- They are LISTENSTEPs of a transmitter, each taken in `LISTEN` (R103). -/
theorem State.listenFor_listenSteps (fuel : Nat) {s : State} (hr : s.params.role = .tx) :
    ∃ n, ListenSteps n s (s.listenFor fuel) := by
  induction fuel generalizing s with
  | zero => exact ⟨0, .done s⟩
  | succ fuel ih =>
    unfold State.listenFor
    split
    · rename_i listening
      obtain ⟨n, rest⟩ := ih (s := s.listenStep) (by rw [State.listenStep_params, hr])
      exact ⟨n + 1, .more listening (exec_listenstep_listening ⟨hr, listening⟩) rest⟩
    · exact ⟨0, .done s⟩

/-- With one LISTENSTEP for each clock sample lined up they end in `IDLE` or use up the samples (R164, log 10). -/
theorem State.listenFor_ends {fuel : Nat} {s : State} (enough : s.world.answers.clock.length ≤ fuel) :
    (s.listenFor fuel).regs.lsPhase = .idle ∨ (s.listenFor fuel).world.answers.clock = [] := by
  induction fuel generalizing s with
  | zero => exact .inr (List.eq_nil_of_length_eq_zero (Nat.le_zero.1 enough))
  | succ fuel ih =>
    unfold State.listenFor
    split
    · exact ih (by rw [State.listenStep_clock, List.length_tail]; omega)
    · rename_i stopped
      cases phase : s.regs.lsPhase with
      | idle => exact .inl rfl
      | listen => exact absurd phase stopped

/-- Settles O28: the TXCYCLE step, then the run of LISTENSTEPs. -/
theorem cycleIsTxcycleThenListensteps : Obligations.CycleIsTxcycleThenListensteps := by
  intro s pri aux kind sel
  refine ⟨fun hr idle mode => ?_, fun other => State.guarded_notEnabled (State.not_txReady other)⟩
  have ready : s.txReady := ⟨hr, idle⟩
  have rests : s.radioRests := State.txRests hr mode
  have role : ((s.txcycleStep pri aux kind sel).begunBy true).params.role = .tx := by
    simp [State.txcycleStep_params, hr]
  obtain ⟨n, steps⟩ := State.listenFor_listenSteps (s.txcycleStep pri aux kind sel).world.answers.clock.length role
  exact ⟨_, _, n, exec_txcycle_ready ready rests pri aux kind sel, State.guarded_ready ready rests, steps,
    State.listenFor_byCycle _ _, State.listenFor_ends (Nat.le_refl _)⟩

/-- Settles O58: a waiting host lets the block take its LISTENSTEP, which keeps the entries. -/
theorem hostWaitsForTheCycle : Obligations.HostWaitsForTheCycle := by
  intro s p rest lined act
  have presented : s.presented = p := by rw [State.presented, lined]; rfl
  have hostAct : p.isHostAct = true := by
    obtain ⟨lines, inputs, rfl, asserted⟩ | ⟨inputs, rfl⟩ | ⟨f, rfl⟩ | ⟨B, rfl⟩ | rfl := act
    · exact decide_eq_true asserted
    all_goals rfl
  refine ⟨fun hr listening byCycle => ?_, fun idle i decoded => ?_⟩
  · have waits : s.hostWaits := ⟨byCycle, listening, presented ▸ hostAct⟩
    have one : exec .listenstep s = .next s.listenStep := exec_listenstep_listening ⟨hr, listening⟩
    obtain ⟨-, requests, -, kept⟩ := s.listenStep_sameSetting
    exact ⟨s.listenStep, by rw [step, if_pos waits, one], one, requests.trans lined, kept.trans byCycle⟩
  · rw [step_of_decode (State.not_hostWaits_idle idle) (presented ▸ decoded), State.pastRequest, lined]
    rfl

end Sys2Proof.Machine

/-! The packet codec (spec/40_packet_codec.md): the layout ENCODE writes, the variant and the fields DECODE reads, and
the two round trips. -/

namespace Sys2Proof

open Machine

/-- Settles O8, variant by variant. -/
theorem frameRoundTrip : Obligations.FrameRoundTrip := by
  intro ty f hw
  cases f with
  | unknown => exact decodeFrame_encode_unknown hw
  | control request sel pri aux => exact decodeFrame_encode_control request sel pri aux
  | status good rating batt => exact decodeFrame_encode_status hw good rating batt
  | calibGet sel val => exact decodeFrame_encode_calibGet hw sel val
  | calibSet sel val => exact decodeFrame_encode_calibSet hw sel val

/-! The type byte (R81, R118). -/

/-- The type value of a frame's variant (R81). -/
def Frame.typeValue (ty : FrameTypes) : Frame → Byte
  | .unknown => ty.unknown
  | .control _ _ _ _ => ty.control
  | .status _ _ _ => ty.status
  | .calibGet _ _ => ty.calibGet
  | .calibSet _ _ => ty.calibSet

section
variable {ty : FrameTypes} {B : FrameBytes}

/-- ENCODE writes the type value at offset 0 (R111 to R116). -/
theorem byteAt_encodeFrame_zero (f : Frame) : byteAt (encodeFrame ty f) 0 = f.typeValue ty := by
  cases f <;>
    simp [encodeFrame, Frame.typeValue, byteAt_memWrite1, byteAt_memWrite2, byteAt_memWrite4, byteAt_putCalVals]

/-- The same with the number of R81. -/
theorem typeIs_encodeFrame (f : Frame) :
    typeIs ty (encodeFrame ty f) (f.typeValue ty) (f.typeValue FrameTypes.default).toNat :=
  ⟨byteAt_encodeFrame_zero f, fun e => by rw [byteAt_encodeFrame_zero, e]⟩

/-- The premise `hasType` gives byte 0 when `n` is the number of the type value `v` under R81. -/
theorem byteAt_of_hasType {v : Byte} {n : Nat} (h : hasType ty B v n) (number : ty = FrameTypes.default → v.toNat = n) :
    byteAt B 0 = v := by
  obtain h | ⟨e, h⟩ := h
  · exact h
  · exact BitVec.eq_of_toNat_eq (h.trans (number e).symm)

/-- A frame with a layout is decoded only under the type value of its variant (R118). -/
theorem byteAt_of_decodeFrame_eq {f : Frame} (h : decodeFrame ty B = f) (known : f ≠ .unknown) :
    byteAt B 0 = f.typeValue ty := by
  subst h
  revert known
  unfold decodeFrame
  split_ifs with control status calibGet calibSet <;> intro known
  · exact control
  · exact status
  · exact calibGet
  · exact calibSet
  · exact absurd rfl known

/-- `Unknown` is decoded exactly under the type values without a layout (R118). -/
theorem decodeFrame_eq_unknown_iff (hw : ty.wf) : decodeFrame ty B = .unknown ↔ ty.noLayout (byteAt B 0) := by
  refine ⟨fun unknown => ?_, decodeFrame_unknown⟩
  obtain h | h | h | h | h := typeByte_cases ty B
  · cases (decodeFrame_control h).symm.trans unknown
  · cases (decodeFrame_status hw h).symm.trans unknown
  · cases (decodeFrame_calibGet hw h).symm.trans unknown
  · cases (decodeFrame_calibSet hw h).symm.trans unknown
  · exact h

/-- The values of R81 leave 0 and 5 to 255 without a layout. -/
theorem noLayout_default_iff (b : Byte) : FrameTypes.default.noLayout b ↔ b.toNat = 0 ∨ 5 ≤ b.toNat := by
  simp only [FrameTypes.noLayout, FrameTypes.default, ne_eq, BitVec.toNat_eq, BitVec.toNat_ofNat]
  omega

end

/-- Settles O5: each variant is decoded under its type value and under no other. -/
theorem typeByteSelectsVariant : Obligations.TypeByteSelectsVariant := by
  intro ty B hw
  refine ⟨⟨?_, fun h => ⟨_, _, _, _, decodeFrame_control h⟩⟩, ⟨?_, fun h => ⟨_, _, _, decodeFrame_status hw h⟩⟩,
    ⟨?_, fun h => ⟨_, _, decodeFrame_calibGet hw h⟩⟩, ⟨?_, fun h => ⟨_, _, decodeFrame_calibSet hw h⟩⟩,
    decodeFrame_eq_unknown_iff hw, ?_⟩
  · rintro ⟨_, _, _, _, h⟩
    exact byteAt_of_decodeFrame_eq h nofun
  · rintro ⟨_, _, _, h⟩
    exact byteAt_of_decodeFrame_eq h nofun
  · rintro ⟨_, _, h⟩
    exact byteAt_of_decodeFrame_eq h nofun
  · rintro ⟨_, _, h⟩
    exact byteAt_of_decodeFrame_eq h nofun
  · rintro rfl
    exact ⟨BitVec.toNat_eq, BitVec.toNat_eq, BitVec.toNat_eq, BitVec.toNat_eq,
      (decodeFrame_eq_unknown_iff hw).trans (noLayout_default_iff _)⟩

/-! The fields (R85, R91, R92). -/

/-- What DECODE reads as channels stands at their offsets (R119). -/
theorem channelsAt_get (B : FrameBytes) : channelsAt B (getPrimary B) (getAuxiliary B) :=
  ⟨le16_eq B 2, le16_eq B 4, le16_eq B 6, le16_eq B 8, le16_eq B 10, rfl, rfl, rfl⟩

/-- What DECODE reads as calibration values stands at their offsets (R121). -/
theorem calValsAt_getCalVals (B : FrameBytes) : calValsAt B (getCalVals B) :=
  ⟨le16_eq B 2, le16_eq B 4, le16_eq B 6, le16_eq B 8, le16_eq B 10, le16_eq B 12⟩

/-- Settles O6: the flag byte field by field, the channels at their offsets. -/
theorem controlFrameDecoding : Obligations.ControlFrameDecoding := by
  intro ty B h
  have type : byteAt B 0 = ty.control := byteAt_of_hasType h fun e => e ▸ rfl
  exact ⟨_, _, _, _, decodeFrame_control type, ctrlRequest_number _, ctrlSel_toNat _, channelsAt_get B⟩

/-- Settles O7, type by type. -/
theorem statusAndCalibrationDecoding : Obligations.StatusAndCalibrationDecoding := by
  intro ty B hw
  refine ⟨fun h => ?_, fun h => ?_, fun h => ?_⟩
  · have type : byteAt B 0 = ty.status := byteAt_of_hasType h fun e => e ▸ rfl
    exact ⟨_, _, _, decodeFrame_status hw type, statGood_iff _, rfl, (le32_eq B 3).symm⟩
  · have type : byteAt B 0 = ty.calibGet := byteAt_of_hasType h fun e => e ▸ rfl
    exact ⟨_, decodeFrame_calibGet hw type, calValsAt_getCalVals B⟩
  · have type : byteAt B 0 = ty.calibSet := byteAt_of_hasType h fun e => e ▸ rfl
    exact ⟨_, decodeFrame_calibSet hw type, calValsAt_getCalVals B⟩

/-! ENCODE after DECODE (R124). ENCODE writes a frame from its first byte on, so what it writes grows as a copy of the
first bytes of the frame that was decoded, with zeros behind them. -/

/-- The first `n` bytes of `C` are those of `B`, the others are 0. -/
def CopiedUpTo (B : FrameBytes) (n : Nat) (C : FrameBytes) : Prop :=
  ∀ k, byteAt C k = if k < n then byteAt B k else 0#8

section
variable {B C : FrameBytes} {n : Nat}

theorem copiedUpTo_zeroFrame (B : FrameBytes) : CopiedUpTo B 0 zeroFrame := fun k => by simp

/-- Writing the next byte of `B`. -/
theorem CopiedUpTo.memWrite1 (h : CopiedUpTo B n C) (hn : n < 16) {v : Byte} (hv : v = byteAt B n) :
    CopiedUpTo B (n + 1) (memWrite1 n v C) := by
  intro k
  rw [byteAt_memWrite1 _ _ _ _ hn, h k]
  obtain lt | rfl | gt := Nat.lt_trichotomy k n
  · rw [if_neg (by omega), if_pos lt, if_pos (by omega)]
  · rw [if_pos rfl, if_pos (by omega), hv]
  · rw [if_neg (by omega), if_neg (by omega), if_neg (by omega)]

/-- Writing the next 16-bit field of `B`. -/
theorem CopiedUpTo.memWrite2 (h : CopiedUpTo B n C) (hn : n + 1 < 16) :
    CopiedUpTo B (n + 2) (memWrite2 n (memRead2 B n) C) :=
  (h.memWrite1 (Nat.lt_of_succ_lt hn) (memRead2_low B n)).memWrite1 hn (memRead2_high B n)

/-- Writing the next 32-bit field of `B`. -/
theorem CopiedUpTo.memWrite4 (h : CopiedUpTo B n C) (hn : n + 3 < 16) :
    CopiedUpTo B (n + 4) (memWrite4 n (memRead4 B n) C) := by
  rw [Sys2Proof.memWrite4, memRead4_low, memRead4_high]
  exact (h.memWrite2 (by omega)).memWrite2 hn

/-- Writing the six calibration values of `B`. -/
theorem CopiedUpTo.putCalVals (h : CopiedUpTo B 2 C) : CopiedUpTo B 14 (putCalVals (getCalVals B) C) :=
  (((((h.memWrite2 (by decide)).memWrite2 (by decide)).memWrite2 (by decide)).memWrite2 (by decide)).memWrite2
    (by decide)).memWrite2 (by decide)

/-- The copy is complete when only zeros follow. -/
theorem CopiedUpTo.eq (h : CopiedUpTo B n C) (padding : ∀ k, n ≤ k → k ≤ 15 → byteAt B k = 0#8) : C = B := by
  refine frameBytes_ext fun k hk => ?_
  rw [h k]
  split_ifs with lt
  · rfl
  · exact (padding k (Nat.le_of_not_lt lt) hk).symm

/-- Without reserved bits `CTRL_FLAGS` is its two fields (R86). -/
theorem ctrlFlags_of_lt {flags : Byte} (h : flags.toNat < 32) :
    ctrlFlags (ctrlRequest flags) (ctrlSel flags) = flags := by
  apply BitVec.eq_of_toNat_eq
  rw [ctrlFlags_toNat, ctrlRequest_number, ctrlSel_toNat]
  omega

/-- Without reserved bits `STAT_FLAGS` is the majority flag (R90). -/
theorem statFlags_of_lt {flags : Byte} (h : flags.toNat < 2) : statFlags (statGood flags) = flags := by
  apply BitVec.eq_of_toNat_eq
  rw [statFlags_toNat]
  simp only [statGood_iff]
  split_ifs <;> omega

variable {ty : FrameTypes}

/-- A Control frame without padding and reserved bits is encoded as it was (R124). -/
theorem encodeFrame_control_of_canonical (type : byteAt B 0 = ty.control) (reserved : (byteAt B 1).toNat < 32)
    (padding : byteAt B 15 = 0#8) :
    encodeFrame ty (.control (ctrlRequest (byteAt B 1)) (ctrlSel (byteAt B 1)) (getPrimary B) (getAuxiliary B)) =
      B := by
  have header : CopiedUpTo B 2 _ := ((copiedUpTo_zeroFrame B).memWrite1 (by decide) type.symm).memWrite1 (by decide)
    (ctrlFlags_of_lt reserved)
  have primary : CopiedUpTo B 12 _ := ((((header.memWrite2 (by decide)).memWrite2 (by decide)).memWrite2
    (by decide)).memWrite2 (by decide)).memWrite2 (by decide)
  have auxiliary : CopiedUpTo B 15 _ := ((primary.memWrite1 (by decide) rfl).memWrite1 (by decide) rfl).memWrite1
    (by decide) rfl
  exact auxiliary.eq fun k lo hi => Nat.le_antisymm hi lo ▸ padding

/-- A Status frame without padding and reserved bits is encoded as it was (R124). -/
theorem encodeFrame_status_of_canonical (type : byteAt B 0 = ty.status) (reserved : (byteAt B 1).toNat < 2)
    (padding : ∀ k, 7 ≤ k → k ≤ 15 → byteAt B k = 0#8) :
    encodeFrame ty (.status (statGood (byteAt B 1)) (byteAt B 2) (memRead4 B 3)) = B := by
  have header : CopiedUpTo B 3 _ := (((copiedUpTo_zeroFrame B).memWrite1 (by decide) type.symm).memWrite1 (by decide)
    (statFlags_of_lt reserved)).memWrite1 (by decide) rfl
  exact (header.memWrite4 (by decide)).eq padding

/-- A calibration frame without padding is written as it was, whatever its type value `v` (R124). -/
theorem putCalVals_of_canonical {v : Byte} (type : byteAt B 0 = v) (padding : byteAt B 14 = 0#8 ∧ byteAt B 15 = 0#8) :
    putCalVals (getCalVals B) (memWrite1 1 (byteAt B 1) (memWrite1 0 v zeroFrame)) = B := by
  have header : CopiedUpTo B 2 _ := ((copiedUpTo_zeroFrame B).memWrite1 (by decide) type.symm).memWrite1 (by decide) rfl
  refine header.putCalVals.eq fun k lo hi => ?_
  obtain rfl | rfl : k = 14 ∨ k = 15 := by omega
  · exact padding.1
  · exact padding.2

/-- A frame of the type of `Unknown` with no other byte set is encoded as it was (R124). -/
theorem encodeFrame_unknown_of_canonical (type : byteAt B 0 = ty.unknown)
    (padding : ∀ k, 1 ≤ k → k ≤ 15 → byteAt B k = 0#8) : encodeFrame ty .unknown = B :=
  ((copiedUpTo_zeroFrame B).memWrite1 (by decide) type.symm).eq padding

end

/-- Settles O9: what ENCODE writes is canonical (R84), and canonical bytes are copied, type by type. -/
theorem encodeAfterDecodeOnCanonicalBytesOnly : Obligations.EncodeAfterDecodeOnCanonicalBytesOnly := by
  intro ty B hw
  constructor
  · intro same
    have written := (paddingAndReservedBitsIgnored ty hw).1 (decodeFrame ty B) B same.symm
    refine ⟨fun h => ?_, fun h => ?_, fun h => ?_, fun h => ?_⟩
    · rwa [decodeFrame_control h] at written
    · rwa [decodeFrame_status hw h] at written
    · obtain h | h := h
      · rwa [decodeFrame_calibGet hw h] at written
      · rwa [decodeFrame_calibSet hw h] at written
    · rw [decodeFrame_unknown h] at written same
      exact ⟨same ▸ byteAt_encodeFrame_zero .unknown, written⟩
  · rintro ⟨control, status, calib, unknown⟩
    obtain h | h | h | h | h := typeByte_cases ty B
    · obtain ⟨reserved, padding⟩ := control h
      rw [decodeFrame_control h, encodeFrame_control_of_canonical h reserved padding]
    · obtain ⟨reserved, padding⟩ := status h
      rw [decodeFrame_status hw h, encodeFrame_status_of_canonical h reserved padding]
    · rw [decodeFrame_calibGet hw h]
      exact putCalVals_of_canonical h (calib (.inl h))
    · rw [decodeFrame_calibSet hw h]
      exact putCalVals_of_canonical h (calib (.inr h))
    · obtain ⟨type, padding⟩ := unknown h
      rw [decodeFrame_unknown h, encodeFrame_unknown_of_canonical type padding]

/-! The sixteen bytes of each variant (R111 to R116). -/

/-- Settles O1: the channels are those that DECODE reads back. -/
theorem controlFrameLayout : Obligations.ControlFrameLayout := by
  rintro ty request sel pri aux B rfl
  have flags : byteAt (encodeFrame ty (.control request sel pri aux)) 1 = ctrlFlags request sel := by
    simp [encodeFrame, byteAt_memWrite1, byteAt_memWrite2]
  have fields := decodeFrame_encode_control (ty := ty) request sel pri aux
  rw [decodeFrame_control (byteAt_encodeFrame_zero _)] at fields
  obtain ⟨-, -, primary, auxiliary⟩ := Frame.control.inj fields
  have channels := channelsAt_get (encodeFrame ty (.control request sel pri aux))
  rw [primary, auxiliary] at channels
  exact ⟨typeIs_encodeFrame _, by rw [flags, ctrlFlags_toNat], channels,
    by simp [encodeFrame, byteAt_memWrite1, byteAt_memWrite2]⟩

/-- Settles O2: the three header bytes and the padding beside the battery field, which reads as it was written. -/
theorem statusFrameLayout : Obligations.StatusFrameLayout := by
  rintro ty good rating batt B rfl
  have header : ∀ k, k < 3 ∨ 6 < k → byteAt (encodeFrame ty (.status good rating batt)) k =
      if 2 = k then rating else if 1 = k then statFlags good else if 0 = k then ty.status else 0#8 := by
    intro k hk
    rw [encodeFrame, byteAt_memWrite4 _ _ _ _ (by decide) (by omega)]
    simp [byteAt_memWrite1]
  refine ⟨typeIs_encodeFrame _, ?_, header 2 (by decide), ?_, fun k lo _ => ?_⟩
  · rw [header 1 (by decide)]
    exact statFlags_toNat good
  · rw [le32_eq, encodeFrame, memRead4_memWrite4 _ _ _ (by decide)]
  · rw [header k (by omega), if_neg (by omega), if_neg (by omega), if_neg (by omega)]

/-- The bytes of a calibration frame behind its type byte, whatever its type value `v` (R114, R115). -/
theorem calibrationBytes (v sel : Byte) (val : CalVals) {B : FrameBytes}
    (h : B = putCalVals val (memWrite1 1 sel (memWrite1 0 v zeroFrame))) :
    byteAt B 1 = sel ∧ calValsAt B val ∧ byteAt B 14 = 0#8 ∧ byteAt B 15 = 0#8 := by
  have values : getCalVals B = val := by rw [h, getCalVals_putCalVals]
  refine ⟨?_, values ▸ calValsAt_getCalVals B, ?_, ?_⟩ <;> simp [h, byteAt_putCalVals, byteAt_memWrite1]

/-- Settles O3: both types write the same bytes behind their type byte. -/
theorem calibrationFrameLayout : Obligations.CalibrationFrameLayout := by
  rintro ty sel val G S rfl rfl
  exact ⟨⟨typeIs_encodeFrame _, calibrationBytes _ _ _ rfl⟩, typeIs_encodeFrame _, calibrationBytes _ _ _ rfl⟩

/-- Settles O4: only the type byte is written. -/
theorem unknownFrameIsZero : Obligations.UnknownFrameIsZero := fun _ =>
  ⟨typeIs_encodeFrame _, fun k lo _ => (byteAt_encode_unknown k).trans (if_neg (by omega))⟩

end Sys2Proof

/-! The signal quality estimator (spec/41_signal_quality.md): what a closing window computes, and PROBE and TICK as the
host requests them. -/

namespace Sys2Proof.Machine

/-- The density component is at most `RATING_HALF` (R135). -/
theorem density_le (p : Params) (n : Nat) : density p n ≤ p.ratingHalf := Nat.min_le_right ..

/-- The quality component is 0 exactly below one part of `RATING_HALF` (R135). -/
theorem quality_eq_zero_iff {p : Params} {good n : Nat} (sampled : 0 < n) :
    quality p good n = 0 ↔ p.ratingHalf * good < n :=
  Nat.div_eq_zero_iff_lt sampled

/-- The quality component is at its maximum exactly without weak probes (R135). -/
theorem quality_eq_ratingHalf_iff {p : Params} {good weak : Nat} (sampled : 0 < good + weak) (half : 0 < p.ratingHalf) :
    quality p good (good + weak) = p.ratingHalf ↔ weak = 0 := by
  constructor
  · intro full
    by_contra weak_ne
    have fewer : p.ratingHalf * good < p.ratingHalf * (good + weak) := Nat.mul_lt_mul_of_pos_left (by omega) half
    exact ((Nat.div_lt_iff_lt_mul sampled).2 fewer).ne full
  · rintro rfl
    exact Nat.mul_div_cancel _ sampled

/-- A window without probes closes with rating 0 and no majority (R133 lines 3 to 5). -/
theorem window_empty (p : Params) {good weak : Nat} (empty : good + weak = 0) :
    windowRating p good weak = 0#8 ∧ windowMajority good weak = false := ⟨if_pos empty, if_pos empty⟩

/-- The rating of a window with probes is the exact sum of its components where `sq_rating` holds it (R133 line 9,
R137). -/
theorem windowRating_toNat {p : Params} {good weak : Nat} (fits : 2 * p.ratingHalf ≤ 255) (sampled : 0 < good + weak) :
    (windowRating p good weak).toNat = density p (good + weak) + quality p good (good + weak) := by
  have hd := density_le p (good + weak)
  have hq : quality p good (good + weak) ≤ p.ratingHalf := quality_le (Nat.le_add_right ..)
  rw [windowRating, if_neg sampled.ne', BitVec.toNat_ofNat, Nat.mod_eq_of_lt (by omega)]

/-- The majority flag of a window with probes (R133 line 10, R134). -/
theorem windowMajority_iff {good weak : Nat} (sampled : 0 < good + weak) :
    windowMajority good weak = true ↔ weak < good := by
  rw [windowMajority, if_neg sampled.ne', decide_eq_true_iff]

/-- The steps of the density component with the values of R7 (R135). -/
theorem density_steps {p : Params} (half : p.ratingHalf = 33) (samples : p.tSamples = 200) (n : Nat) :
    (density p n = 0 ↔ n ≤ 6) ∧ (density p n = 1 ↔ 7 ≤ n ∧ n ≤ 12) ∧ (density p n = 33 ↔ 200 ≤ n) := by
  rw [density, half, samples]
  omega

/-- A TICK before the window has run its length leaves the state as it is (R136). -/
theorem State.tickAt_open {s : State} {now : Time} (short : ¬ s.regs.windowElapsed s.params now) :
    s.tickAt now = s := by
  rw [State.tickAt, State.onRegs, Regs.tick_open short]

/-- A TICK of an elapsed window closes it and touches nothing but the registers (R133). -/
theorem State.tickAt_closed {s : State} {now : Time} (elapsed : s.regs.windowElapsed s.params now) :
    s.tickAt now = s.onRegs (Regs.closeWindow s.params now) := by
  rw [State.tickAt, State.onRegs, Regs.tick_closed elapsed, State.onRegs]

/-- Settles O18: an elapsed window closes with `windowRating` and `windowMajority`, empty or not. -/
theorem tickClosesWindowOrChangesNothing : Obligations.TickClosesWindowOrChangesNothing := by
  rintro s now good weak half idle - rfl fits rfl rfl
  rw [exec_tick_idle idle]
  refine ⟨fun short => ?_, fun elapsed =>
    ⟨windowRating s.params s.regs.sqGood.toNat s.regs.sqWeak.toNat,
      windowMajority s.regs.sqGood.toNat s.regs.sqWeak.toNat, ?_, window_empty s.params, fun sampled => ?_⟩⟩
  · rw [State.tickAt_open (Nat.not_le.2 short)]
  · rw [State.tickAt_closed elapsed]
    rfl
  · exact ⟨windowRating_toNat fits sampled, windowMajority_iff sampled⟩

/-- Settles O19, component by component. -/
theorem ratingComponentsAndRange : Obligations.RatingComponentsAndRange := by
  rintro p good weak n half rfl rfl fits
  have range := windowRating_le p good weak
  refine ⟨range, density_le .., fun _ => quality_le (Nat.le_add_right ..), fun sampled => ?_, fun half => ?_,
    fun half samples => density_steps half samples _⟩
  · exact ⟨windowRating_toNat fits sampled, quality_eq_ratingHalf_iff sampled, quality_eq_zero_iff sampled⟩
  · rwa [half] at range

/-- Settles O17: `satSucc` is the saturating sum, on the counter that the sample selects. -/
theorem probeCountsOneSample : Obligations.ProbeCountsOneSample := by
  intro s idle
  rw [exec_probe_idle idle, exec_probe_idle idle, State.onRegs, State.onRegs, Regs.probe_good, Regs.probe_weak]
  exact ⟨rfl, rfl⟩

end Sys2Proof.Machine

/-! LinkSession in the transmitter role (spec/42_link_transmitter.md): FINISH, TXCYCLE, the ways a listen window goes on
or ends, and the frames as instructions at a transmitter that listens. -/

namespace Sys2Proof.Machine

/-! FINISH (R162). -/

/-- With carrier sense FINISH is a probe and a tick (R162). -/
theorem State.finish_carrierSense {s : State} (sense : s.params.hasCarrierSense = true) (t : Time) :
    s.finish t = s.probeCarrier.tickAt t := if_pos sense

/-- Without carrier sense FINISH is a tick (R162). -/
theorem State.finish_noCarrierSense {s : State} (blind : s.params.hasCarrierSense = false) (t : Time) :
    s.finish t = s.tickAt t := if_neg (by simp [blind])

theorem keepsLink_iff {r u : Regs} :
    KeepsLink r u ↔ u.lsLastTxTime = r.lsLastTxTime ∧ u.lsLastRxTime = r.lsLastRxTime ∧
      u.lsLastLatency = r.lsLastLatency ∧ u.lsLastStatusTime = r.lsLastStatusTime ∧
      u.lsReqDecision = r.lsReqDecision ∧ u.lsListenStart = r.lsListenStart ∧ u.statGood = r.statGood ∧
      u.statRating = r.statRating ∧ u.statBatt = r.statBatt :=
  ⟨fun ⟨a, b, c, d, e, f, g, h, i⟩ => ⟨a, b, c, d, e, f, g, h, i⟩,
    fun ⟨a, b, c, d, e, f, g, h, i⟩ => ⟨a, b, c, d, e, f, g, h, i⟩⟩

/-- Settles O21, with and without carrier sense. -/
theorem finishProbesThenTicks : Obligations.FinishProbesThenTicks := by
  intro s t
  refine ⟨fun sense => ⟨s.world.nextCarrier, ?_⟩, fun blind => ?_, by simp [keepsLink_iff], by simp⟩
  · rw [State.finish_carrierSense sense]
    exact ⟨rfl, rfl⟩
  · rw [State.finish_noCarrierSense blind]
    rfl

/-! TXCYCLE (R150 to R155). -/

/-- The TXCYCLE step writes nothing of what `sameSetting` names (R150). -/
theorem State.txcycleStep_sameSetting (pri : Primary) (aux : Auxiliary) (kind : CalKind) (sel : Sel3) (s : State) :
    sameSetting s (s.txcycleStep pri aux kind sel) := by
  by_cases request : decideRequest s.params s.regs s.world.nextClock kind = .none
  · simp [State.txcycleStep_none request, State.txSent, sameSetting]
  · simp [State.txcycleStep_some request, State.txSent, sameSetting]

/-- TXCYCLE uses one clock sample (R150). -/
theorem State.txcycleStep_clock (pri : Primary) (aux : Auxiliary) (kind : CalKind) (sel : Sel3) (s : State) :
    (s.txcycleStep pri aux kind sel).world.answers.clock = s.world.answers.clock.tail := by
  by_cases request : decideRequest s.params s.regs s.world.nextClock kind = .none
  · simp [State.txcycleStep_none request, State.txSent]
  · simp [State.txcycleStep_some request, State.txSent]

/-- A due fetch is always a request (R151). -/
theorem decideRequest_ne_none {p : Params} {r : Regs} {t : Time} {kind : CalKind} (due : r.fetchDue p t) :
    decideRequest p r t kind ≠ .none := by
  rw [decideRequest_due due]
  cases kind <;> simp

/-- The request of a due fetch and its selector, by the outstanding calibration request (R151, R152). -/
theorem dueRequest_by_kind {p : Params} {r : Regs} {t : Time} (due : r.fetchDue p t) (kind : CalKind) (calSel : Sel3) :
    let request := decideRequest p r t kind
    (kind = .noCal → request = .status ∧ requestSel request calSel = 0#3) ∧
    (kind = .get → request = .calibGet ∧ requestSel request calSel = calSel) ∧
    (kind = .set → request = .calibSet ∧ requestSel request calSel = calSel) := by
  simp only [decideRequest_due due]
  cases kind <;> simp [requestSel]

/-- Settles O20: a due fetch opens the window, and a fetch that is not due finishes. -/
theorem txcycleSendsAndOpensOrFinishes : Obligations.TxcycleSendsAndOpensOrFinishes := by
  rintro s pri aux kind calSel clk hr idle mode rfl
  obtain ⟨params, requests, codecOut, -⟩ := s.txcycleStep_sameSetting pri aux kind calSel
  refine ⟨_, s.world.callClock.nextSendOk, exec_txcycle_ready ⟨hr, idle⟩ (State.txRests hr mode) pri aux kind calSel,
    ⟨params, requests, codecOut, rfl⟩, (Silent.txcycleStep mode pri aux kind calSel).frames, ?_⟩
  by_cases due : s.regs.fetchDue s.params s.world.nextClock
  · obtain ⟨noCal, get, isSet⟩ := dueRequest_by_kind due kind calSel
    refine .inl ⟨due, _, _, noCal, get, isSet, ?_⟩
    rw [State.txcycleStep_some (decideRequest_ne_none due)]
    exact ⟨rfl, by simp [addsCalls, State.txSent, controlFrame, World.nextSendOk], rfl⟩
  · have none := decideRequest_notDue (kind := kind) due
    refine .inr ⟨Nat.not_lt.1 due, (s.txSent pri aux kind calSel).world.nextCarrier, ?_⟩
    rw [State.txcycleStep_none none]
    refine ⟨?_, ?_, ?_⟩
    · simp [State.txSent, none, Regs.setDecision, Regs.noteSend]
    · simp [addsCalls, State.txSent, none, controlFrame, requestSel, World.nextSendOk]
    · simp [State.txSent, mode]

/-! LISTENSTEP without a frame (R156, R157). -/

/-- Settles O22: the window ends by its deadline, without a poll. -/
theorem expiredWindowEndsWithoutPolling : Obligations.ExpiredWindowEndsWithoutPolling := by
  rintro s clk hr listening rfl expired
  have ends : s.listenStep = (s.onWorld World.callClock).endCycle s.world.nextClock := State.listenStep_expired expired
  refine ⟨s.listenStep, (s.world.callClock.callSetListening false).nextCarrier,
    exec_listenstep_listening ⟨hr, listening⟩, s.listenStep_sameSetting, ?_, ?_, ?_, ?_,
    (State.listenStep_silent expired).frames⟩ <;> rw [ends]
  · exact State.endCycle_regs _ _
  · simp [keepsLink_iff]
  · simp [addsCalls]
  · simp

/-- Settles O23: the step is the clock sample and the poll. -/
theorem pollWithoutFrameKeepsListening : Obligations.PollWithoutFrameKeepsListening := by
  rintro s clk hr listening rfl inside nothing
  have isOpen : ¬ s.regs.listenExpired s.params s.world.nextClock := Nat.not_le.2 inside
  have polled : s.listenStep = s.polled := State.listenStep_none isOpen nothing
  refine ⟨s.listenStep, exec_listenstep_listening ⟨hr, listening⟩, s.listenStep_sameSetting, ?_, ?_, ?_,
    (State.listenStep_polls isOpen).usesUp⟩ <;> rw [polled]
  · rfl
  · simpa [nothing] using s.polled_calls.1
  · simp [State.polled]

/-! LISTENSTEP with a frame (R158 to R162). -/

/-- From `s` to `t` the listen window ends with the frame `B`, at the clock sample `clk`: the times are noted, the frame
is processed, the radio transmits again, FINISH takes the carrier-detect sample `cd`, and the phase is `IDLE`. -/
structure WindowEndsWith (B : FrameBytes) (clk : Time) (cd : Bool) (s t : State) : Prop where
  regs    : t.regs = (finishRegs s.params cd clk
    (processRegs (decodeFrame s.params.types B) clk ((s.regs.noteReceive clk).noteLatency clk))).endListen
  calls   : addsCalls s t ([.clockNow clk, .radioTryReceive (some B)] ++
    processCalls (decodeFrame s.params.types B) ++ [.radioSetListening false] ++ finishCalls s.params cd)
  setting : sameSetting s t
  mode    : t.world.radioListening = false

/-- A frame obtained is processed before FINISH, with the times noted (R156 lines 11 to 16). -/
theorem State.arrive_processes (B : FrameBytes) (t : Time) (s : State) : ∃ cd,
    (s.arrive B t).regs = (finishRegs s.params cd t
      (processRegs (decodeFrame s.params.types B) t ((s.regs.noteReceive t).noteLatency t))).endListen ∧
    addsCalls s (s.arrive B t) (processCalls (decodeFrame s.params.types B) ++ [.radioSetListening false] ++
      finishCalls s.params cd) := by
  have regs := State.endCycle_regs t
    (((s.onRegs (Regs.noteReceive t)).onRegs (Regs.noteLatency t)).process (decodeFrame s.params.types B) t)
  rw [State.process_regs, State.process_params] at regs
  exact ⟨_, regs, by simp [State.arrive, addsCalls]⟩

/-- The first frame obtained ends the window (R159). -/
theorem State.listenStep_windowEndsWith {s : State} {B : FrameBytes}
    (isOpen : ¬ s.regs.listenExpired s.params s.world.nextClock) (obtained : s.world.callClock.nextReceived = some B) :
    ∃ cd, WindowEndsWith B s.world.nextClock cd s s.listenStep := by
  have arrives : s.listenStep = s.polled.arrive B s.world.nextClock := State.listenStep_some isOpen obtained
  obtain ⟨cd, regs, calls⟩ := State.arrive_processes B s.world.nextClock s.polled
  obtain ⟨polled, -⟩ := s.polled_calls
  refine ⟨cd, arrives ▸ regs, ?_, s.listenStep_sameSetting, by simp [arrives, State.arrive]⟩
  rw [arrives]
  simpa [obtained, State.polled] using addsCalls_trans polled calls

/-- A frame that reaches a radio which holds none ends the window, and the radio holds none afterwards (R159, log 7). -/
theorem State.arriveFrame_windowEndsWith {s : State} (empty : s.world.radioHeld = [])
    (isOpen : ¬ s.regs.listenExpired s.params s.world.nextClock) (B : FrameBytes) :
    ∃ cd, WindowEndsWith B s.world.nextClock cd s (s.onWorld (World.arriveFrame B)).listenStep ∧
      leavesRadioFrames s (s.onWorld (World.arriveFrame B)).listenStep := by
  have handsOver : s.onWorld (World.arriveFrame B) = s.onWorld (World.hold B) := by
    simp only [State.onWorld, World.arriveFrame_empty empty]
  rw [handsOver]
  obtain ⟨cd, regs, calls, setting, mode⟩ := State.listenStep_windowEndsWith (s := s.onWorld (World.hold B)) isOpen
    (World.hold_nextReceived empty B)
  obtain ⟨held, received⟩ := (State.listenStep_polls (s := s.onWorld (World.hold B)) isOpen).usesUp
  exact ⟨cd, ⟨regs, calls, setting, mode⟩, by simpa [empty] using held, by simpa [empty] using received⟩

/-- A frame row at a transmitter inside its window ends the window with its frame (log 7). -/
theorem exec_frame_windowEndsWith {s : State} {i : Instr} {B : FrameBytes} (listening : s.txListening)
    (empty : s.world.radioHeld = []) (isOpen : ¬ s.regs.listenExpired s.params s.world.nextClock)
    (encoded : encode s.params.types i = .frame B) :
    ∃ t cd, exec i s = .next t ∧ WindowEndsWith B s.world.nextClock cd s t ∧ leavesRadioFrames s t := by
  obtain ⟨cd, ends⟩ := State.arriveFrame_windowEndsWith empty isOpen B
  exact ⟨_, cd, by rw [exec_frame encoded, frameAtRadio_listening listening isOpen], ends⟩

section
variable {B : FrameBytes} {clk : Time} {cd : Bool} {s t : State}

/-- A Status frame is held as received (R160). -/
theorem WindowEndsWith.status (h : WindowEndsWith B clk cd s t) {good : Bool} {rating : Byte} {batt : BattBits}
    (status : decodeFrame s.params.types B = .status good rating batt) :
    t.regs = { finishRegs s.params cd clk { s.regs with
        lsLastRxTime := clk, lsLastLatency := clk - s.regs.lsLastTxTime, statGood := good, statRating := rating,
        statBatt := batt, lsLastStatusTime := clk } with lsPhase := .idle } ∧
    addsCalls s t ([.clockNow clk, .radioTryReceive (some B), .radioSetListening false] ++
      finishCalls s.params cd) := by
  obtain ⟨regs, calls, -, -⟩ := h
  rw [status] at regs calls
  exact ⟨regs, calls⟩

/-- Any other frame changes only the times (R161). -/
theorem WindowEndsWith.other (h : WindowEndsWith B clk cd s t)
    (other : ∀ good rating batt, decodeFrame s.params.types B ≠ .status good rating batt) :
    t.regs = { finishRegs s.params cd clk { s.regs with
        lsLastRxTime := clk, lsLastLatency := clk - s.regs.lsLastTxTime } with lsPhase := .idle } := by
  rw [h.regs, processRegs_other other]
  rfl

/-- The latency is the time since the send, whatever the frame (R158). -/
theorem WindowEndsWith.latency (h : WindowEndsWith B clk cd s t) :
    t.regs.lsLastLatency = clk - s.regs.lsLastTxTime := by
  simp [h.regs, processRegs_latency]

end

/-- Only a calibration frame is handed on in PROCESS (R161). -/
theorem processCalls_other {f : Frame} (other : ∀ sel val, f ≠ .calibGet sel val ∧ f ≠ .calibSet sel val) :
    processCalls f = [] := by
  cases f with
  | calibGet sel val => exact absurd rfl (other sel val).1
  | calibSet sel val => exact absurd rfl (other sel val).2
  | status | control | unknown => rfl

/-- Settles O24: PROCESS holds the frame. -/
theorem statusReplyIsHeld : Obligations.StatusReplyIsHeld := by
  rintro s clk B good rating batt hr listening rfl inside obtained status
  have isOpen : ¬ s.regs.listenExpired s.params s.world.nextClock := Nat.not_le.2 inside
  obtain ⟨cd, ends⟩ := State.listenStep_windowEndsWith isOpen obtained
  obtain ⟨regs, calls⟩ := ends.status status
  exact ⟨_, cd, exec_listenstep_listening ⟨hr, listening⟩, ends.setting, regs, calls, ends.mode,
    (State.listenStep_polls isOpen).usesUp⟩

/-- Settles O25: what is delivered are the calls of PROCESS. -/
theorem otherRepliesAreHandedOnOrDiscarded : Obligations.OtherRepliesAreHandedOnOrDiscarded := by
  rintro s clk B hr listening rfl inside obtained other
  have isOpen : ¬ s.regs.listenExpired s.params s.world.nextClock := Nat.not_le.2 inside
  obtain ⟨cd, ends⟩ := State.listenStep_windowEndsWith isOpen obtained
  refine ⟨_, cd, processCalls (decodeFrame s.params.types B), exec_listenstep_listening ⟨hr, listening⟩, ends.setting,
    ends.other other, ends.calls, fun sel val get => ?_, fun sel val isSet => ?_, fun request sel pri aux control => ?_,
    fun unknown => ?_, ends.mode, (State.listenStep_polls isOpen).usesUp⟩
  · rw [get, processCalls]
  · rw [isSet, processCalls]
  · rw [control, processCalls]
  · rw [unknown, processCalls]

/-- Settles O26: the window began at the send, so the latency is the time the window has been open. -/
theorem latencyBelowListenDuration : Obligations.LatencyBelowListenDuration := by
  intro s B inv hr listening inside obtained
  obtain ⟨cd, ends⟩ := State.listenStep_windowEndsWith (Nat.not_le.2 inside) obtained
  obtain ⟨-, start⟩ := inv.listening listening
  exact ⟨_, exec_listenstep_listening ⟨hr, listening⟩, by rwa [ends.latency, ← start]⟩

/-! CYCLE (R164). -/

/-- In `IDLE` no LISTENSTEP is left to take (R103). -/
theorem State.listenFor_idle {s : State} (idle : s.regs.lsPhase = .idle) (fuel : Nat) : s.listenFor fuel = s := by
  cases fuel with
  | zero => rfl
  | succ fuel => exact if_neg (by simp [idle])

/-- A LISTENSTEP after which the window is still open found it open and wrote no register (R156). -/
theorem State.listenStep_stays {s : State} (before : s.regs.lsPhase = .listen)
    (after : s.listenStep.regs.lsPhase = .listen) :
    ¬ s.regs.listenExpired s.params s.world.nextClock ∧ s.listenStep.regs = s.regs := by
  obtain ⟨nothing, isOpen⟩ := (State.listenStep_lsPhase before).1 after
  exact ⟨isOpen, by rw [State.listenStep_none isOpen nothing]; rfl⟩

/-- One LISTENSTEP for each clock sample lined up ends in `IDLE` if the window has expired at one of them (R164). -/
theorem State.listenFor_ends_of_expired {clocks : List Time} {s : State} (lined : s.world.answers.clock = clocks)
    (passed : ∃ c ∈ clocks, s.regs.listenExpired s.params c) :
    (s.listenFor clocks.length).regs.lsPhase = .idle := by
  induction clocks generalizing s with
  | nil => simp at passed
  | cons now later ih =>
    cases before : s.regs.lsPhase with
    | idle => rwa [State.listenFor_idle before]
    | listen =>
      have one : s.listenFor (now :: later).length = s.listenStep.listenFor later.length := if_pos before
      rw [one]
      cases after : s.listenStep.regs.lsPhase with
      | idle => rwa [State.listenFor_idle after]
      | listen =>
        obtain ⟨isOpen, regs⟩ := State.listenStep_stays before after
        have sample : s.world.nextClock = now := by simp [World.nextClock, lined]
        refine ih (by rw [State.listenStep_clock, lined, List.tail_cons]) ?_
        simpa [regs, State.listenStep_params, sample ▸ isOpen] using passed

/-- Settles O29: the first sample starts the window, and one of the later ones finds it expired. -/
theorem cycleEndsOnceTheClockPassesTheBound : Obligations.CycleEndsOnceTheClockPassesTheBound := by
  intro s pri aux kind calSel clk rest hr idle mode lined passed
  have clock : (s.txcycleStep pri aux kind calSel).world.answers.clock = rest := by
    rw [State.txcycleStep_clock, lined, List.tail_cons]
  refine ⟨_, State.guarded_ready ⟨hr, idle⟩ (State.txRests hr mode), ?_⟩
  rw [clock]
  by_cases request : decideRequest s.params s.regs s.world.nextClock kind = .none
  · have finished : (s.txcycleStep pri aux kind calSel).regs.lsPhase = .idle := by
      simp [State.txcycleStep_none request, State.txSent, idle]
    rwa [State.listenFor_idle (s := (s.txcycleStep pri aux kind calSel).begunBy true) finished]
  · have start : (s.txcycleStep pri aux kind calSel).regs.lsListenStart = clk := by
      simp [State.txcycleStep_some request, World.nextClock, lined]
    refine State.listenFor_ends_of_expired (s := (s.txcycleStep pri aux kind calSel).begunBy true) clock ?_
    simpa [State.txcycleStep_params, start, elapsed] using passed

/-! Frames as instructions (log 7). -/

/-- Settles O39: the frame ends the window, and reads back as the Status frame it is. -/
theorem transmitterHoldsStatusFrame : Obligations.TransmitterHoldsStatusFrame := by
  rintro s clk good rating batt hr listening empty hw rfl inside
  obtain ⟨t, cd, next, ends, frames⟩ := exec_frame_windowEndsWith (i := .frameStatus good rating batt) ⟨hr, listening⟩
    empty (Nat.not_le.2 inside) rfl
  obtain ⟨regs, calls⟩ := ends.status (decodeFrame_encode_status hw good rating batt)
  exact ⟨t, cd, next, ends.setting, frames, regs, calls⟩

/-- The bytes of a well-formed frame row are read back as this row. -/
theorem decodeFrameRow_of_encode {ty : FrameTypes} {i : Instr} {B : FrameBytes} (hw : ty.wf) (hi : i.wf ty = true)
    (encoded : encode ty i = .frame B) : decodeFrameRow ty B = i := by
  have back := presentedInstructionRoundTrip ty i hw hi
  rw [encoded] at back
  exact Except.ok.inj back

/-- The rows of the three reply types are read from the frames of their types alone (R118). -/
theorem decodeFrameRow_reply_iff (ty : FrameTypes) (B : FrameBytes) :
    (∀ good rating batt, decodeFrameRow ty B = .frameStatus good rating batt ↔
      decodeFrame ty B = .status good rating batt) ∧
    (∀ sel val, decodeFrameRow ty B = .frameCalibGet sel val ↔ decodeFrame ty B = .calibGet sel val) ∧
    (∀ sel val, decodeFrameRow ty B = .frameCalibSet sel val ↔ decodeFrame ty B = .calibSet sel val) := by
  unfold decodeFrameRow
  cases decodeFrame ty B with
  | status | calibGet | calibSet | control => simp
  | unknown => by_cases zero : byteAt B 0 = ty.unknown <;> simp [zero]

/-- Settles O40: the frame ends the window, and its row says what PROCESS does with it. -/
theorem transmitterHandsOnOrDiscardsFrame : Obligations.TransmitterHandsOnOrDiscardsFrame := by
  rintro s clk i B hr listening empty hw rfl inside hi encoded other
  obtain ⟨t, cd, next, ends, frames⟩ := exec_frame_windowEndsWith ⟨hr, listening⟩ empty (Nat.not_le.2 inside) encoded
  obtain rfl := decodeFrameRow_of_encode hw hi encoded
  obtain ⟨statusRow, getRow, setRow⟩ := decodeFrameRow_reply_iff s.params.types B
  simp only [ne_eq, statusRow] at other
  simp only [ne_eq, getRow, setRow]
  refine ⟨t, cd, processCalls (decodeFrame s.params.types B), next, ends.setting, frames, ends.other other, ends.calls,
    fun sel val get => ?_, fun sel val isSet => ?_, processCalls_other⟩
  · rw [get, processCalls]
  · rw [isSet, processCalls]

end Sys2Proof.Machine

/-! LinkSession in the receiver role (spec/43_link_receiver.md): the reply a request gets, the actuator commands, RXPOLL
with and without a frame, the request codes and the frames as instructions, and which steps drive an actuator. -/

namespace Sys2Proof.Machine

/-! The reply to a request (R185 to R188). -/

/-- The channels are 0 to 5 (R93). -/
theorem namesChannel_iff {sel : Sel3} : namesChannel sel ↔ sel.toNat ≤ 5 := Nat.lt_succ_iff

/-- The selectors 6 and 7 name no channel (R93, R186). -/
theorem not_namesChannel_iff {sel : Sel3} : ¬ namesChannel sel ↔ 6 ≤ sel.toNat := Nat.not_lt

/-- The requests that get no reply: none at all, and a calibration request without a channel (R186). -/
def unanswered (request : Req) (sel : Sel3) : Prop := request = .none ∨ (request ≠ .status ∧ ¬ namesChannel sel)

/-- These calls are the reply to a request, of a receiver whose last closed window has this majority and this rating:
one frame in its bracket, or nothing (R185 to R188). -/
inductive ReplyTo (ty : FrameTypes) (good : Bool) (rating : Byte) (sel : Sel3) : Req → List Event → Prop where
  | nothing {request : Req} (none : unanswered request sel) : ReplyTo ty good rating sel request []
  | status (v : BattBits) (ok : Bool) :
      ReplyTo ty good rating sel .status (replyCalls ty (.battRead v) (.status good rating v) ok)
  | calibGet (channel : namesChannel sel) (val : CalVals) (ok : Bool) :
      ReplyTo ty good rating sel .calibGet
        (replyCalls ty (.calRead sel val) (.calibGet (BitVec.ofNat 8 sel.toNat) val) ok)
  | calibSet (channel : namesChannel sel) (val : CalVals) (ok : Bool) :
      ReplyTo ty good rating sel .calibSet
        (replyCalls ty (.calRead sel val) (.calibSet (BitVec.ofNat 8 sel.toNat) val) ok)

section
variable {ty : FrameTypes} {good : Bool} {rating : Byte} {sel : Sel3} {request : Req} {reply : List Event}

theorem ReplyTo.eq_nil (h : ReplyTo ty good rating sel request reply) (none : unanswered request sel) : reply = [] := by
  cases h with
  | nothing => rfl
  | status => simp [unanswered] at none
  | calibGet channel | calibSet channel => simp [unanswered, channel] at none

theorem ReplyTo.of_status (h : ReplyTo ty good rating sel .status reply) :
    ∃ v ok, reply = replyCalls ty (.battRead v) (.status good rating v) ok := by
  cases h with
  | nothing none => simp [unanswered] at none
  | status v ok => exact ⟨v, ok, rfl⟩

/-- A calibration request for a channel is answered with one frame of its own type (R187). -/
theorem ReplyTo.of_calib (h : ReplyTo ty good rating sel request reply)
    (calib : request = .calibGet ∨ request = .calibSet) (channel : sel.toNat ≤ 5) :
    ∃ val ok f, (request = .calibGet → f = .calibGet (BitVec.ofNat 8 sel.toNat) val) ∧
      (request = .calibSet → f = .calibSet (BitVec.ofNat 8 sel.toNat) val) ∧
      reply = replyCalls ty (.calRead sel val) f ok := by
  cases h with
  | nothing none =>
    obtain rfl | rfl := calib <;> simp [unanswered, namesChannel_iff.2 channel] at none
  | status => simp at calib
  | calibGet _ val ok | calibSet _ val ok => exact ⟨val, ok, _, by simp, by simp, rfl⟩

end

/-- The time of the send is noted if there was a reply (R185 line 5, R187 line 5). -/
def noteReply (reply : List Event) (t : Time) (r : Regs) : Regs := if reply = [] then r else r.noteSend t

theorem noteReply_eq (reply : List Event) (t : Time) (r : Regs) :
    noteReply reply t r = { r with lsLastTxTime := if reply = [] then r.lsLastTxTime else t } := by
  unfold noteReply
  split <;> rfl

/-- From `s` to `t` a receiver replies to the request: these calls, and the time `clk` of the send. -/
structure Replies (request : Req) (sel : Sel3) (clk : Time) (reply : List Event) (s t : State) : Prop where
  asked : ReplyTo s.params.types s.regs.sqGoodMajority s.regs.sqRating sel request reply
  regs  : t.regs = noteReply reply clk s.regs
  calls : addsCalls s t reply

theorem RepliesWith.replies {read : Event} {f : Frame} {request : Req} {sel : Sel3} {clk : Time} {s t : State}
    (h : RepliesWith read f clk s t)
    (asked : ∀ ok, ReplyTo s.params.types s.regs.sqGoodMajority s.regs.sqRating sel request
      (replyCalls s.params.types read f ok)) :
    ∃ reply, Replies request sel clk reply s t := by
  obtain ⟨ok, calls⟩ := h.calls
  exact ⟨_, asked ok, h.regs, calls⟩

/-- A reply is made as its request and selector ask (R180 lines 9 to 13). -/
theorem State.reply_replies (request : Req) (sel : Sel3) (clk : Time) (s : State) :
    ∃ reply, Replies request sel clk reply s (s.reply request sel clk) := by
  by_cases none : unanswered request sel
  · rw [State.reply_noChannel none]
    exact ⟨[], .nothing none, rfl, by simp [addsCalls]⟩
  · obtain ⟨isRequest, answered⟩ := not_or.1 none
    cases request with
    | none => exact absurd rfl isRequest
    | status =>
      obtain ⟨v, replies⟩ := State.reply_status sel clk s
      exact replies.replies (.status v)
    | calibGet =>
      have channel : namesChannel sel := by simpa using answered
      obtain ⟨val, replies⟩ := State.reply_calibGet channel clk s
      exact replies.replies (sel_setWidth sel ▸ .calibGet channel val)
    | calibSet =>
      have channel : namesChannel sel := by simpa using answered
      obtain ⟨val, replies⟩ := State.reply_calibSet channel clk s
      exact replies.replies (sel_setWidth sel ▸ .calibSet channel val)

theorem State.reply_sameSetting (request : Req) (sel : Sel3) (t : Time) (s : State) :
    sameSetting s (s.reply request sel t) := by
  obtain e | ⟨_, _, e⟩ | ⟨_, _, e⟩ := State.reply_cases request sel t s
  · rw [e]
    exact ⟨rfl, rfl, rfl, rfl⟩
  · exact e.setting
  · exact e.setting

/-! The actuator commands (R191). -/

theorem clampPri_toNat {p : Params} (range : p.actPriMin.toNat ≤ p.actPriMax.toNat) (v : U16) :
    (clampPri p v).toNat = max p.actPriMin.toNat (min p.actPriMax.toNat v.toNat) := clampU_toNat v _ _ range

theorem clampAux_toNat {p : Params} (range : p.actAuxMin.toNat ≤ p.actAuxMax.toNat) (v : Byte) :
    (clampAux p v).toNat = max p.actAuxMin.toNat (min p.actAuxMax.toNat v.toNat) := by
  rw [clampAux, BitVec.toNat_setWidth_of_le (by decide), clampU_toNat v _ _ range]

/-- Settles O35, channel by channel. -/
theorem actuatorValuesAreClamped : Obligations.ActuatorValuesAreClamped := by
  rintro p pri aux ⟨-, priRange, auxRange, -, -⟩
  simp [actuatorCommands, clampPri_toNat priRange, clampAux_toNat auxRange]

/-! RXPOLL (R180). -/

theorem State.handle_sameSetting (B : FrameBytes) (t : Time) (s : State) : sameSetting s (s.handle B t) := by
  obtain e | ⟨request, sel, pri, aux, e⟩ := State.handle_cases B t s <;> rw [e]
  · exact ⟨rfl, rfl, rfl, rfl⟩
  · simpa [sameSetting] using State.reply_sameSetting request sel t (s.onRegs (Regs.noteReceive t)).probeCarrier

/-- RXPOLL writes nothing of what `sameSetting` names (R180). -/
theorem State.rxpollStep_sameSetting (s : State) : sameSetting s s.rxpollStep := by
  cases hB : s.world.callClock.nextReceived with
  | none =>
    rw [State.rxpollStep_none hB]
    exact ⟨rfl, rfl, rfl, rfl⟩
  | some B =>
    rw [State.rxpollStep_some hB]
    exact State.handle_sameSetting B _ s.polled

/-- A receiver whose radio listens answers RXPOLL, keeps its setting and its mode, and uses up the poll's answer. -/
theorem exec_rxpoll_polls {s : State} (hr : s.params.role = .rx) (idle : s.regs.lsPhase = .idle)
    (mode : s.world.radioListening = true) :
    exec .rxpoll s = .next s.rxpollStep ∧ sameSetting s s.rxpollStep ∧ s.rxpollStep.world.radioListening = true ∧
      usesUpPoll s s.rxpollStep :=
  ⟨exec_rxpoll_ready ⟨hr, idle⟩ (State.rxRests hr mode), s.rxpollStep_sameSetting,
    State.rxpollStep_radioListening mode, (State.rxpollStep_polls mode).usesUp⟩

/-- Settles O30: the step is the clock sample, the poll and TICK. -/
theorem pollWithoutFrameOnlyTicks : Obligations.PollWithoutFrameOnlyTicks := by
  rintro s clk hr idle mode rfl nothing
  obtain ⟨next, setting, listening, used⟩ := exec_rxpoll_polls hr idle mode
  have ticks : s.rxpollStep = s.polled.tickAt s.world.nextClock := State.rxpollStep_none nothing
  refine ⟨_, next, setting, ?_, ?_, ?_, listening, used⟩ <;> rw [ticks]
  · rfl
  · simp [keepsLink_iff, State.polled]
  · exact nothing ▸ s.polled_calls.1

/-- From `s` to `t` an RXPOLL obtains the frame `B`: the receive time is noted, the carrier-detect sample `cd` is
probed, the calls `reply` and then `drives` are made, and the step ticks (R180). -/
structure PollHandles (B : FrameBytes) (cd : Bool) (reply drives : List Event) (s t : State) : Prop where
  regs  : t.regs = (noteReply reply s.world.nextClock
    (Regs.probe cd { s.regs with lsLastRxTime := s.world.nextClock })).tick s.params s.world.nextClock
  calls : addsCalls s t
    ([.clockNow s.world.nextClock, .radioTryReceive (some B), .radioCarrierDetected cd] ++ reply ++ drives)

/-- The state of an RXPOLL that obtained a frame, after line 5 of R180: the receive time noted, the sample probed. -/
def State.received (s : State) : State := (s.polled.onRegs (Regs.noteReceive s.world.nextClock)).probeCarrier

theorem State.received_calls {s : State} {B : FrameBytes} (obtained : s.world.callClock.nextReceived = some B) :
    addsCalls s s.received [.clockNow s.world.nextClock, .radioTryReceive (some B),
      .radioCarrierDetected s.polled.world.nextCarrier] := by
  obtain ⟨polled, -⟩ := s.polled_calls
  rw [obtained] at polled
  have probed : addsCalls s.polled s.received [.radioCarrierDetected s.polled.world.nextCarrier] := rfl
  exact addsCalls_trans polled probed

/-- A Control frame is answered, then its channel values are forwarded (R180, R189). -/
theorem State.rxpollStep_control {s : State} {B : FrameBytes} {request : Req} {sel : Sel3} {pri : Primary}
    {aux : Auxiliary} (obtained : s.world.callClock.nextReceived = some B)
    (control : decodeFrame s.params.types B = .control request sel pri aux) :
    ∃ cd reply, ReplyTo s.params.types s.regs.sqGoodMajority s.regs.sqRating sel request reply ∧
      PollHandles B cd reply (actuatorCalls s.params pri aux) s s.rxpollStep := by
  have handled := State.handle_control (s := s.polled) control s.world.nextClock
  have acts : s.rxpollStep =
      ((s.received.reply request sel s.world.nextClock).forward pri aux).tickAt s.world.nextClock := by
    rw [State.rxpollStep_some obtained]
    exact congrArg (State.tickAt s.world.nextClock) handled
  obtain ⟨reply, asked, regs, calls⟩ := State.reply_replies request sel s.world.nextClock s.received
  have params : (s.received.reply request sel s.world.nextClock).params = s.params := State.reply_params ..
  refine ⟨s.polled.world.nextCarrier, reply, by simpa [State.received, State.polled] using asked, ?_, ?_⟩
  · rw [acts, State.tickAt_regs, State.forward_params, State.forward_regs, params, regs]
    rfl
  · have forwards := State.forward_trace pri aux (s.received.reply request sel s.world.nextClock)
    rw [params] at forwards
    rw [acts]
    exact addsCalls_trans (addsCalls_trans (State.received_calls obtained) calls) forwards

/-- A frame that is not Control is noted and probed only (R184). -/
theorem State.rxpollStep_other {s : State} {B : FrameBytes} (obtained : s.world.callClock.nextReceived = some B)
    (other : ∀ request sel pri aux, decodeFrame s.params.types B ≠ .control request sel pri aux) :
    ∃ cd, PollHandles B cd [] [] s s.rxpollStep := by
  have handled := State.handle_other (s := s.polled) other s.world.nextClock
  have ignores : s.rxpollStep = s.received.tickAt s.world.nextClock := by
    rw [State.rxpollStep_some obtained]
    exact congrArg (State.tickAt s.world.nextClock) handled
  rw [ignores]
  exact ⟨_, rfl, State.received_calls obtained⟩

/-- Settles O31: a frame under another type byte decodes to no Control frame. -/
theorem pollIgnoresAllButControl : Obligations.PollIgnoresAllButControl := by
  rintro s clk B hr idle mode rfl obtained type
  obtain ⟨next, setting, listening, used⟩ := exec_rxpoll_polls hr idle mode
  obtain ⟨cd, regs, calls⟩ := State.rxpollStep_other obtained (decodeFrame_ne_control type)
  exact ⟨_, cd, next, setting, regs, calls, listening, used⟩

/-- Settles O32: the reply to a status request. -/
theorem statusRequestIsAnswered : Obligations.StatusRequestIsAnswered := by
  rintro s clk B sel pri aux hr idle mode rfl obtained control
  obtain ⟨next, setting, listening, used⟩ := exec_rxpoll_polls hr idle mode
  obtain ⟨cd, reply, asked, regs, calls⟩ := State.rxpollStep_control obtained control
  obtain ⟨v, ok, rfl⟩ := asked.of_status
  exact ⟨_, cd, v, ok, next, setting, regs, calls, listening, used⟩

/-- Settles O33: the reply to a calibration request for a channel. -/
theorem calibrationRequestIsAnswered : Obligations.CalibrationRequestIsAnswered := by
  rintro s clk B request sel pri aux hr idle mode rfl obtained control calib channel
  obtain ⟨next, setting, listening, used⟩ := exec_rxpoll_polls hr idle mode
  obtain ⟨cd, reply, asked, regs, calls⟩ := State.rxpollStep_control obtained control
  obtain ⟨val, ok, f, get, isSet, rfl⟩ := asked.of_calib calib channel
  exact ⟨_, cd, val, ok, f, next, setting, get, isSet, regs, calls, listening, used⟩

/-- Settles O34: the reply is empty. -/
theorem requestsWithoutReply : Obligations.RequestsWithoutReply := by
  rintro s clk B request sel pri aux hr idle mode rfl obtained control noReply
  obtain ⟨next, setting, listening, used⟩ := exec_rxpoll_polls hr idle mode
  obtain ⟨cd, reply, asked, regs, calls⟩ := State.rxpollStep_control obtained control
  have none : unanswered request sel :=
    noReply.imp id fun ⟨calib, noChannel⟩ =>
      ⟨by obtain rfl | rfl := calib <;> simp, not_namesChannel_iff.2 noChannel⟩
  obtain rfl := asked.eq_nil none
  exact ⟨_, cd, next, setting, regs, calls, listening, used⟩

/-! Request codes as instructions (log 8). -/

/-- A request code at a transmitter does nothing (log 8). -/
theorem execRequest_transmitter {s : State} (hr : s.params.role = .tx) (request : Req) (sel : Sel3) :
    execRequest request sel s = .next s := if_pos hr

/-- A request code at a receiver whose radio listens samples the clock and makes the reply (log 8). -/
theorem execRequest_receiver {s : State} (hr : s.params.role = .rx) (idle : s.regs.lsPhase = .idle)
    (mode : s.world.radioListening = true) (request : Req) (sel : Sel3) :
    ∃ t reply, ReplyTo s.params.types s.regs.sqGoodMajority s.regs.sqRating sel request reply ∧
      execRequest request sel s = .next t ∧ sameSetting s t ∧ leavesRadioFrames s t ∧
      t.regs = noteReply reply s.world.nextClock s.regs ∧ addsCalls s t (.clockNow s.world.nextClock :: reply) := by
  obtain ⟨reply, asked, regs, calls⟩ :=
    State.reply_replies request sel s.world.nextClock (s.onWorld World.callClock)
  have sampled : addsCalls s (s.onWorld World.callClock) [.clockNow s.world.nextClock] := rfl
  have silent := (Silent.callClock s).trans
    (.reply (s := s.onWorld World.callClock) mode request sel s.world.nextClock)
  refine ⟨_, reply, asked, ?_, State.reply_sameSetting request sel _ (s.onWorld World.callClock), silent.frames, regs,
    addsCalls_trans sampled calls⟩
  rw [execRequest, if_neg (by simp [hr])]
  exact State.guarded_ready ⟨hr, idle⟩ (State.rxRests hr mode)

/-- A request code at a receiver that gets no reply only samples the clock (R186; log 8). -/
theorem execRequest_unanswered {s : State} (hr : s.params.role = .rx) (idle : s.regs.lsPhase = .idle)
    (mode : s.world.radioListening = true) {request : Req} {sel : Sel3} (none : unanswered request sel) :
    ∃ t, execRequest request sel s = .next t ∧ sameSetting s t ∧ leavesRadioFrames s t ∧ t.regs = s.regs ∧
      addsCalls s t [.clockNow s.world.nextClock] := by
  obtain ⟨t, reply, asked, answer⟩ := execRequest_receiver hr idle mode request sel
  obtain rfl := asked.eq_nil none
  exact ⟨t, answer⟩

/-- A calibration request code for a channel is answered with one frame of its own type (R187; log 8). -/
theorem execRequest_calib {s : State} (hr : s.params.role = .rx) (idle : s.regs.lsPhase = .idle)
    (mode : s.world.radioListening = true) {request : Req} {sel : Sel3}
    (calib : request = .calibGet ∨ request = .calibSet) (channel : sel.toNat ≤ 5) :
    ∃ t val ok f, (request = .calibGet → f = .calibGet (BitVec.ofNat 8 sel.toNat) val) ∧
      (request = .calibSet → f = .calibSet (BitVec.ofNat 8 sel.toNat) val) ∧ execRequest request sel s = .next t ∧
      sameSetting s t ∧ leavesRadioFrames s t ∧ t.regs = { s.regs with lsLastTxTime := s.world.nextClock } ∧
      addsCalls s t (.clockNow s.world.nextClock :: replyCalls s.params.types (.calRead sel val) f ok) := by
  obtain ⟨t, reply, asked, answer⟩ := execRequest_receiver hr idle mode request sel
  obtain ⟨val, ok, f, get, isSet, rfl⟩ := asked.of_calib calib channel
  exact ⟨t, val, ok, f, get, isSet, answer⟩

/-- Settles O36, code by code. -/
theorem requestCodesAlone : Obligations.RequestCodesAlone := by
  rintro s sel clk rfl
  refine ⟨fun hr => ⟨execRequest_transmitter hr .none sel, execRequest_transmitter hr .status sel,
      execRequest_transmitter hr .calibGet sel, execRequest_transmitter hr .calibSet sel⟩,
    fun hr idle mode => ⟨execRequest_unanswered hr idle mode (.inl rfl), ?_, fun channel => ⟨?_, ?_⟩,
      fun noChannel => ?_⟩⟩
  · obtain ⟨t, reply, asked, answer⟩ := execRequest_receiver hr idle mode .status sel
    obtain ⟨v, ok, rfl⟩ := asked.of_status
    exact ⟨t, v, ok, answer⟩
  · obtain ⟨t, val, ok, f, get, -, answer⟩ := execRequest_calib hr idle mode (request := .calibGet) (.inl rfl) channel
    obtain rfl := get rfl
    exact ⟨t, val, ok, answer⟩
  · obtain ⟨t, val, ok, f, -, isSet, answer⟩ := execRequest_calib hr idle mode (request := .calibSet) (.inr rfl) channel
    obtain rfl := isSet rfl
    exact ⟨t, val, ok, answer⟩
  · have none := not_namesChannel_iff.2 noChannel
    exact ⟨execRequest_unanswered hr idle mode (request := .calibGet) (.inr ⟨by simp, none⟩),
      execRequest_unanswered hr idle mode (request := .calibSet) (.inr ⟨by simp, none⟩)⟩

/-! Frames as instructions (log 7). -/

/-- A frame row at a receiver whose radio holds none is RXPOLL of a radio that holds its frame alone, and the radio
holds none afterwards (log 7). -/
theorem exec_frame_polls {s : State} {i : Instr} {B : FrameBytes} (hr : s.params.role = .rx)
    (idle : s.regs.lsPhase = .idle) (mode : s.world.radioListening = true) (empty : s.world.radioHeld = [])
    (encoded : encode s.params.types i = .frame B) :
    exec i s = .next (s.onWorld (World.hold B)).rxpollStep ∧
      sameSetting s (s.onWorld (World.hold B)).rxpollStep ∧
      leavesRadioFrames s (s.onWorld (World.hold B)).rxpollStep := by
  have handsOver : s.onWorld (World.arriveFrame B) = s.onWorld (World.hold B) := by
    simp only [State.onWorld, World.arriveFrame_empty empty]
  obtain ⟨held, received⟩ := (State.rxpollStep_polls (s := s.onWorld (World.hold B)) mode).usesUp
  refine ⟨?_, State.rxpollStep_sameSetting (s.onWorld (World.hold B)), by simpa [empty] using held,
    by simpa [empty] using received⟩
  rw [exec_frame encoded, frameAtRadio_receiver ⟨hr, idle⟩ (State.rxRests hr mode), handsOver]

/-- Settles O37: the frame is obtained and reads back as the Control frame it is. -/
theorem receiverActsOnControlFrame : Obligations.ReceiverActsOnControlFrame := by
  rintro s clk request sel pri aux hr idle mode empty rfl
  have encoded : encode s.params.types (.frameControl request sel pri aux) =
      .frame (encodeFrame s.params.types (.control request sel pri aux)) := rfl
  have control := decodeFrame_encode_control (ty := s.params.types) request sel pri aux
  generalize encodeFrame s.params.types (.control request sel pri aux) = B at encoded control ⊢
  obtain ⟨next, setting, frames⟩ := exec_frame_polls hr idle mode empty encoded
  obtain ⟨cd, reply, asked, regs, calls⟩ := State.rxpollStep_control (s := s.onWorld (World.hold B))
    (World.hold_nextReceived empty B) control
  refine ⟨_, cd, reply, next, setting, frames, calls, fun none => asked.eq_nil (.inl none), ?_, ?_, ?_,
    fun answered noChannel => asked.eq_nil (.inr ⟨answered, not_namesChannel_iff.2 noChannel⟩), ?_⟩
  · rintro rfl
    exact asked.of_status
  · rintro rfl channel
    obtain ⟨val, ok, f, get, -, calls⟩ := asked.of_calib (.inl rfl) channel
    exact ⟨val, ok, get rfl ▸ calls⟩
  · rintro rfl channel
    obtain ⟨val, ok, f, -, isSet, calls⟩ := asked.of_calib (.inr rfl) channel
    exact ⟨val, ok, isSet rfl ▸ calls⟩
  · rw [regs, noteReply_eq, Regs.probe_lsLastTxTime]
    rfl

/-- A frame that reads as a Control frame is the row of Control frames (R94). -/
theorem decodeFrameRow_control {ty : FrameTypes} {B : FrameBytes} {request : Req} {sel : Sel3} {pri : Primary}
    {aux : Auxiliary} (control : decodeFrame ty B = .control request sel pri aux) :
    decodeFrameRow ty B = .frameControl request sel pri aux := by
  rw [decodeFrameRow, control]

/-- Settles O38: a frame of another row reads as no Control frame. -/
theorem receiverIgnoresOtherFrames : Obligations.ReceiverIgnoresOtherFrames := by
  rintro s clk i B hr idle mode empty hw rfl hi encoded rows
  obtain ⟨next, setting, frames⟩ := exec_frame_polls hr idle mode empty encoded
  obtain rfl := decodeFrameRow_of_encode hw hi encoded
  have other : ∀ request sel pri aux, decodeFrame s.params.types B ≠ .control request sel pri aux := by
    intro request sel pri aux control
    simp [decodeFrameRow_control control] at rows
  obtain ⟨cd, regs, calls⟩ := State.rxpollStep_other (s := s.onWorld (World.hold B))
    (World.hold_nextReceived empty B) other
  exact ⟨_, cd, next, setting, frames, regs, calls⟩

/-! Which steps drive an actuator (R184, R191). -/

@[simp] theorem finishCalls_any_isActuator (p : Params) (cd : Bool) :
    (finishCalls p cd).any Event.isActuator = false := by
  obtain ⟨-, -, -, -, quiet⟩ := finishCalls_quiet p cd true
  exact quiet

@[simp] theorem processCalls_any_isActuator (f : Frame) : (processCalls f).any Event.isActuator = false := by
  obtain ⟨-, -, -, -, quiet⟩ := processCalls_quiet f true
  exact quiet

/-- No reply drives an actuator (R188). -/
theorem ReplyTo.any_isActuator {ty : FrameTypes} {good : Bool} {rating : Byte} {sel : Sel3} {request : Req}
    {reply : List Event} (h : ReplyTo ty good rating sel request reply) : reply.any Event.isActuator = false := by
  cases h <;> rfl

/-- The run added calls to the trace, and if one of them drives an actuator, the endpoint is a receiver and obtained a
Control frame. -/
def DrivesForControl (s t : State) : Prop :=
  ∃ calls, addsCalls s t calls ∧ (calls.any Event.isActuator = true →
    s.params.role = .rx ∧ ∃ B ∈ receivedFrames calls, byteAt B 0 = s.params.types.control)

theorem DrivesForControl.of_quiet {s t : State} {calls : List Event} (adds : addsCalls s t calls)
    (quiet : calls.any Event.isActuator = false) : DrivesForControl s t :=
  ⟨calls, adds, fun drives => absurd drives (by simp [quiet])⟩

theorem DrivesForControl.of_noCall {s t : State} (trace : t.world.trace = s.world.trace) : DrivesForControl s t :=
  .of_quiet (calls := []) (by simp [addsCalls, trace]) rfl

theorem DrivesForControl.trans {s t u : State} (h : DrivesForControl s t) (k : DrivesForControl t u)
    (params : t.params = s.params) : DrivesForControl s u := by
  obtain ⟨a, addsA, controlA⟩ := h
  obtain ⟨b, addsB, controlB⟩ := k
  rw [params] at controlB
  refine ⟨a ++ b, addsCalls_trans addsA addsB, fun drives => ?_⟩
  rw [List.any_append, Bool.or_eq_true] at drives
  rw [receivedFrames_append]
  obtain drives | drives := drives
  · obtain ⟨rx, B, obtained, type⟩ := controlA drives
    exact ⟨rx, B, List.mem_append_left _ obtained, type⟩
  · obtain ⟨rx, B, obtained, type⟩ := controlB drives
    exact ⟨rx, B, List.mem_append_right _ obtained, type⟩

/-- TXCYCLE drives no actuator (R150). -/
theorem DrivesForControl.txcycleStep (pri : Primary) (aux : Auxiliary) (kind : CalKind) (sel : Sel3) (s : State) :
    DrivesForControl s (s.txcycleStep pri aux kind sel) := by
  have sent : DrivesForControl s (s.txSent pri aux kind sel) := .of_quiet (List.append_assoc ..) rfl
  refine sent.trans ?_ rfl
  by_cases request : decideRequest s.params s.regs s.world.nextClock kind = .none
  · rw [State.txcycleStep_none request]
    exact .of_quiet (State.finish_trace ..) (by simp)
  · rw [State.txcycleStep_some request]
    exact .of_quiet (calls := [.radioSetListening true]) rfl rfl

/-- LISTENSTEP drives no actuator (R156). -/
theorem DrivesForControl.listenStep (s : State) : DrivesForControl s s.listenStep := by
  have sampled : DrivesForControl s (s.onWorld World.callClock) := .of_quiet (calls := [_]) rfl rfl
  by_cases expired : s.regs.listenExpired s.params s.world.nextClock
  · rw [State.listenStep_expired expired]
    exact sampled.trans (.of_quiet (State.endCycle_trace ..) (by simp [Event.isActuator])) rfl
  · cases obtained : s.world.callClock.nextReceived with
    | none =>
      rw [State.listenStep_none expired obtained]
      exact .of_quiet s.polled_calls.1 rfl
    | some B =>
      obtain ⟨cd, ends⟩ := State.listenStep_windowEndsWith expired obtained
      exact .of_quiet ends.calls (by simp [Event.isActuator])

/-- RXPOLL drives the actuators for the Control frame it obtained (R184, R191). -/
theorem DrivesForControl.rxpollStep {s : State} (hr : s.params.role = .rx) : DrivesForControl s s.rxpollStep := by
  cases obtained : s.world.callClock.nextReceived with
  | none =>
    rw [State.rxpollStep_none obtained]
    exact .of_quiet s.polled_calls.1 rfl
  | some B =>
    cases frame : decodeFrame s.params.types B with
    | control request sel pri aux =>
      obtain ⟨cd, reply, -, handles⟩ := State.rxpollStep_control obtained frame
      exact ⟨_, handles.calls, fun _ => ⟨hr, B, by simp [receivedFrames, Event.receivedFrame], type_of_control frame⟩⟩
    | status | calibGet | calibSet | unknown =>
      obtain ⟨cd, handles⟩ := State.rxpollStep_other obtained (by simp [frame])
      exact .of_quiet handles.calls rfl

theorem Move.drivesForControl {s t : State} (m : Move s t) : DrivesForControl s t := by
  cases m with
  | outside _ _ trace => exact .of_noCall trace
  | probe | tick => exact .of_noCall rfl
  | txcycle => exact .txcycleStep ..
  | listenStep => exact .listenStep s
  | rxpoll ready => exact .rxpollStep ready.1
  | reply _ _ request sel =>
    have sampled : DrivesForControl s (s.onWorld World.callClock) := .of_quiet (calls := [_]) rfl rfl
    obtain ⟨reply, replies⟩ := State.reply_replies request sel s.world.nextClock (s.onWorld World.callClock)
    exact sampled.trans (.of_quiet replies.calls replies.asked.any_isActuator) rfl

theorem Moves.drivesForControl {s t : State} (m : Moves s t) : DrivesForControl s t := by
  induction m using Relation.ReflTransGen.head_induction_on with
  | refl => exact .of_noCall rfl
  | head first _ ih => exact first.drivesForControl.trans ih first.params_eq

/-- Settles O51: RESET makes no call, and every other instruction is a run of moves. -/
theorem onlyControlFramesDriveActuators : Obligations.OnlyControlFramesDriveActuators := by
  intro i s t h
  by_cases hi : i = .reset
  · subst hi
    obtain rfl := next_inj h
    exact DrivesForControl.of_noCall rfl
  · exact (exec_moves h hi).drivesForControl

end Sys2Proof.Machine

/-! The conditions of spec/60_exceptions.md: what ends a step, what is discarded, what is refused, and that the two
endpoints share nothing (R200 to R221). -/

namespace Sys2Proof.Machine

/-! No step of the block is stuck (R221). -/

/-- A listen window is open at a transmitter only (R27). -/
theorem Inv.transmitter {s : State} (h : Inv s) (listening : s.regs.lsPhase = .listen) : s.params.role = .tx := by
  cases hr : s.params.role with
  | tx => rfl
  | rx => exact absurd (h.receiver hr).phase (by simp [listening])

/-- Settles O53: the invariant gives the role or the phase, and the mode that goes with the state lets the radio rest in
`IDLE`. -/
theorem blockIsNeverStuck : Obligations.BlockIsNeverStuck := by
  intro s inv radio
  refine ⟨fun idle cd now => ⟨⟨_, exec_probe_idle idle cd⟩, _, exec_tick_idle idle now⟩,
    fun idle hr pri aux kind sel => ⟨_, exec_txcycle_ready ⟨hr, idle⟩ (radio.rests idle) pri aux kind sel⟩,
    fun hr => ?_, fun listening => ⟨_, exec_listenstep_listening ⟨inv.transmitter listening, listening⟩⟩⟩
  have idle : s.regs.lsPhase = .idle := (inv.receiver hr).phase
  exact ⟨_, exec_rxpoll_ready ⟨hr, idle⟩ (radio.rests idle)⟩

/-! The conditions a poll and a deadline raise (R201 to R208). -/

/-- A poll raises no condition but ProtocolMismatch, by a frame the endpoint does not expect (R203). -/
theorem pollCondition_eq_some_iff {ty : FrameTypes} {role : Role} {answer : Option FrameBytes} {c : Condition} :
    pollCondition ty role answer = some c ↔
      c = .protocolMismatch ∧ ∃ B, answer = some B ∧ unexpected role (decodeFrame ty B) = true := by
  cases answer with
  | none => simp [pollCondition]
  | some B => cases h : unexpected role (decodeFrame ty B) <;> simp [pollCondition, h, @eq_comm _ c]

/-- A TimingMiss is the expired window (R157, R204). -/
theorem State.listenCondition_timingMiss_iff {s : State} :
    s.listenCondition = some .timingMiss ↔ s.regs.listenExpired s.params s.world.nextClock := by
  by_cases expired : s.regs.listenExpired s.params s.world.nextClock
  · simp [State.listenCondition, expired]
  · simp [State.listenCondition, expired, pollCondition_eq_some_iff]

/-- A LISTENSTEP meets ProtocolMismatch by the frame it obtains in an open window (R203, R208). -/
theorem State.listenCondition_protocolMismatch_iff {s : State} :
    s.listenCondition = some .protocolMismatch ↔ ¬ s.regs.listenExpired s.params s.world.nextClock ∧
      ∃ B, s.world.callClock.nextReceived = some B ∧ unexpected .tx (decodeFrame s.params.types B) = true := by
  by_cases expired : s.regs.listenExpired s.params s.world.nextClock
  · simp [State.listenCondition, expired]
  · simp [State.listenCondition, expired, pollCondition_eq_some_iff]

/-- Settles O54: a TimingMiss is the expired window of R157. -/
theorem timingMissKeepsLastKnownValues : Obligations.TimingMissKeepsLastKnownValues := by
  intro s hr listening miss
  obtain ⟨t, cd, next, -, regs, keeps, -, transmits, -⟩ := expiredWindowEndsWithoutPolling s _ hr listening rfl
    (State.listenCondition_timingMiss_iff.1 miss)
  exact ⟨t, next, by rw [regs], transmits, keeps⟩

/-! A frame the endpoint does not expect (R203). -/

/-- A transmitter's PROCESS takes nothing from a frame it does not expect (R161, R203). -/
theorem process_unexpected {f : Frame} (h : unexpected .tx f = true) (t : Time) (r : Regs) :
    processRegs f t r = r ∧ processCalls f = [] := by
  cases f with
  | control | unknown => exact ⟨rfl, rfl⟩
  | status | calibGet | calibSet => simp [unexpected] at h

/-- What a receiver does not expect is no Control frame (R203). -/
theorem ne_control_of_unexpected {f : Frame} (h : unexpected .rx f = true) (request : Req) (sel : Sel3) (pri : Primary)
    (aux : Auxiliary) : f ≠ .control request sel pri aux := by
  rintro rfl
  simp [unexpected] at h

/-- Settles O55: at a transmitter the window ends with the frame, of which PROCESS takes nothing; at a receiver the
frame is noted and probed only. -/
theorem protocolMismatchIsDiscarded : Obligations.ProtocolMismatchIsDiscarded := by
  rintro s clk rfl
  refine ⟨fun hr listening mismatch => ?_, fun hr idle mode mismatch => ?_⟩
  · obtain ⟨isOpen, B, obtained, discarded⟩ := State.listenCondition_protocolMismatch_iff.1 mismatch
    obtain ⟨cd, regs, calls, setting, transmits⟩ := State.listenStep_windowEndsWith isOpen obtained
    obtain ⟨keeps, silent⟩ := process_unexpected discarded s.world.nextClock
      ((s.regs.noteReceive s.world.nextClock).noteLatency s.world.nextClock)
    rw [keeps] at regs
    rw [silent] at calls
    exact ⟨_, B, cd, exec_listenstep_listening ⟨hr, listening⟩, setting, regs, calls, transmits,
      (State.listenStep_polls isOpen).usesUp⟩
  · obtain ⟨-, B, obtained, discarded⟩ := pollCondition_eq_some_iff.1 mismatch
    obtain ⟨next, setting, listens, used⟩ := exec_rxpoll_polls hr idle mode
    obtain ⟨cd, regs, calls⟩ := State.rxpollStep_other obtained (ne_control_of_unexpected discarded)
    exact ⟨_, B, cd, next, setting, regs, calls, listens, used⟩

/-! The radio out of its resting mode (R220, R231, R233; U19). -/

/-- What the host's act on the radio answers in `IDLE`, as its next entry (R231, R233; log 6). -/
theorem step_restoreRadio {s : State} {rest : List Presented} (idle : s.regs.lsPhase = .idle)
    (lined : s.requests = .restoreRadio :: rest) :
    step s = .next (s.pastRequest.onWorld fun w => { w with radioListening := restingMode s.params.role }) := by
  have act : decode s.params.types s.presented = .error .hostOnRadio := by
    rw [State.presented, lined]
    rfl
  rw [step, if_neg (State.not_hostWaits_idle idle), act]
  exact if_pos idle

section
variable {s : State} (hr : s.params.role = .rx) (idle : s.regs.lsPhase = .idle) (out : ¬ s.radioRests)
include hr idle out

/-- A request code at a receiver whose radio is out of its mode is refused (U19, log 8). -/
theorem execRequest_notResting (request : Req) (sel : Sel3) :
    execRequest request sel s = .refused .radioNotResting := by
  rw [execRequest, if_neg (by simp [hr])]
  exact State.guarded_notResting ⟨hr, idle⟩ out

/-- A frame at a receiver whose radio is out of its mode is refused (U19, log 7). -/
theorem frameAtRadio_notResting (B : FrameBytes) : frameAtRadio B s = .refused .radioNotResting := by
  simp only [frameAtRadio, hr]
  exact State.guarded_notResting ⟨hr, idle⟩ out

end

/-- Settles O60: every operation that begins at the radio is guarded by its mode, and the host's act restores that mode
alone. -/
theorem radioOutOfModeIsRefusedUntilRestored : Obligations.RadioOutOfModeIsRefusedUntilRestored := by
  intro s idle
  refine ⟨fun hr mode pri aux kind sel => ?_, fun hr mode => ?_, fun rest lined => ?_⟩
  · have out : ¬ s.radioRests := by simp [State.radioRests, hr, mode]
    exact ⟨State.guarded_notResting ⟨hr, idle⟩ out, State.guarded_notResting ⟨hr, idle⟩ out⟩
  · have out : ¬ s.radioRests := by simp [State.radioRests, hr, mode, restingMode]
    have refused := execRequest_notResting hr idle out
    refine ⟨State.guarded_notResting ⟨hr, idle⟩ out,
      fun sel => ⟨refused .none sel, refused .status sel, refused .calibGet sel, refused .calibSet sel⟩,
      fun i B encoded => ?_⟩
    rw [exec_frame encoded]
    exact frameAtRadio_notResting hr idle out B
  · refine ⟨_, step_restoreRadio idle lined, rfl, ⟨rfl, ?_, rfl, rfl⟩, ?_, ⟨rfl, rfl⟩, ?_⟩
    · simp [State.pastRequest, lined]
    · simp [addsCalls, State.pastRequest]
    · simp [RadioInv, State.pastRequest, restingMode, idle]

/-! The collaborators of an endpoint are its own (R216). -/

theorem State.reply_source (request : Req) (sel : Sel3) (t : Time) (s : State) :
    (s.reply request sel t).world.source = s.world.source := by
  obtain e | ⟨_, _, e⟩ | ⟨_, _, e⟩ := State.reply_cases request sel t s
  · rw [e]
  · exact e.source
  · exact e.source

theorem State.handle_source (B : FrameBytes) (t : Time) (s : State) :
    (s.handle B t).world.source = s.world.source := by
  obtain e | ⟨request, sel, pri, aux, e⟩ := State.handle_cases B t s <;> rw [e]
  · rfl
  · simp [State.reply_source]

theorem State.rxpollStep_source (s : State) : s.rxpollStep.world.source = s.world.source := by
  cases hB : s.world.callClock.nextReceived with
  | none => simp [State.rxpollStep_none hB]
  | some B => simp [State.rxpollStep_some hB, State.handle_source]

theorem State.listenStep_source (s : State) : s.listenStep.world.source = s.world.source := by
  by_cases expired : s.regs.listenExpired s.params s.world.nextClock
  · simp [State.listenStep_expired expired]
  · cases hB : s.world.callClock.nextReceived with
    | none => simp [State.listenStep_none expired hB]
    | some B => simp [State.listenStep_some expired hB, State.arrive]

theorem State.txcycleStep_source (pri : Primary) (aux : Auxiliary) (kind : CalKind) (sel : Sel3) (s : State) :
    (s.txcycleStep pri aux kind sel).world.source = s.world.source := by
  by_cases request : decideRequest s.params s.regs s.world.nextClock kind = .none
  · simp [State.txcycleStep_none request, State.txSent]
  · simp [State.txcycleStep_some request, State.txSent]

/-- A step of R28 asks the collaborators it was given (R216). -/
theorem exec_isStep_source {i : Instr} {s t : State} (hi : Instr.isStep i = true) (h : exec i s = .next t) :
    t.world.source = s.world.source := by
  cases i with
  | probe cd =>
    obtain ⟨-, rfl⟩ := exec_probe_next.1 h
    rfl
  | tick now =>
    obtain ⟨-, rfl⟩ := exec_tick_next.1 h
    rfl
  | txcycle pri aux kind sel =>
    obtain ⟨-, -, rfl⟩ := State.guarded_next.1 h
    exact State.txcycleStep_source pri aux kind sel s
  | rxpoll =>
    obtain ⟨-, -, rfl⟩ := State.guarded_next.1 h
    exact s.rxpollStep_source
  | listenstep =>
    obtain ⟨-, rfl⟩ | ⟨-, rfl⟩ := exec_listenstep_next.1 h
    · rfl
    · exact s.listenStep_source
  | reset =>
    obtain rfl := next_inj h
    rfl
  | frameUnknown | frameUnassigned | frameControl | frameStatus | frameCalibGet | frameCalibSet | reqNone | reqStatus
    | reqCalibGet | reqCalibSet | codecEncode | codecDecode | cycle => cases hi

/-- A step of an endpoint in the system asks the endpoint's own collaborators (R216). -/
theorem endpointStep_source {i : Instr} {deliver : Bool} {s t : State} {incoming outgoing incoming' outgoing' :
      List FrameBytes} (h : endpointStep i deliver s incoming outgoing = .next (t, incoming', outgoing')) :
    t.world.source = s.world.source := by
  unfold endpointStep at h
  split at h
  case isFalse => cases h
  case isTrue hi =>
    split at h
    case h_2 | h_3 => cases h
    case h_1 v hv =>
      cases h
      have kept := exec_isStep_source hi hv
      exact kept

theorem State.restoreRadio_source {s t : State} (h : s.restoreRadio = .next t) :
    t.world.source = s.world.source := by
  obtain ⟨-, rfl⟩ := State.restoreRadio_next h
  rfl

/-- Settles O57, event by event. -/
theorem endpointsShareNoState : Obligations.EndpointsShareNoState := by
  refine ⟨by decide, fun y z i deliver e place => ⟨fun h => ?_, fun h => ?_, fun h => ?_, fun h => ?_, ?_⟩⟩
  case refine_5 => cases e <;> exact ⟨_, rfl, rfl, rfl⟩
  all_goals
    simp only [System.step] at h
    split at h <;> cases h
  exacts [⟨rfl, endpointStep_source ‹_›⟩, ⟨rfl, endpointStep_source ‹_›⟩, ⟨rfl, State.restoreRadio_source ‹_›⟩,
    ⟨rfl, State.restoreRadio_source ‹_›⟩]

end Sys2Proof.Machine

/-! RESET inside a listen window (R231). -/

namespace Sys2Proof.Machine

/-- With an open window the mode that goes with the state is listening (R47). -/
theorem RadioInv.listens {s : State} (h : RadioInv s) (listening : s.regs.lsPhase = .listen) :
    s.world.radioListening = true := by
  simpa [RadioInv, listening] using h

/-- A transmitter's radio that listens in `IDLE` is not in the mode that goes with the state (R47). -/
theorem not_radioInv_of_listens_idle {s : State} (hr : s.params.role = .tx) (idle : s.regs.lsPhase = .idle)
    (mode : s.world.radioListening = true) : ¬ RadioInv s := by
  simp [RadioInv, hr, idle, mode]

/-- Settles O44: RESET writes registers only, so the radio that listened in the window listens on in `IDLE`. -/
theorem resetInsideWindowLeavesRadioListening : Obligations.ResetInsideWindowLeavesRadioListening := by
  intro s hr listening radio
  have mode : s.world.radioListening = true := radio.listens listening
  exact ⟨s.onRegs fun _ => Regs.reset, rfl, rfl, rfl, by simp [addsCalls], mode,
    not_radioInv_of_listens_idle hr rfl mode⟩

end Sys2Proof.Machine
